-- ==== Sys2Proof/Word.lean ====
section
/-! DEFINITION. The word types of the JM416: one frame-bus line of 32 bytes, and the 128 segment indices.
A line is little-endian (00_scope.md, "Addresses, words and lines"): byte `n` of the line is bits `8n+7` down to `8n`. -/

namespace Sys2Proof

/-- A line of 32 bytes, or the data of a smaller transfer in its low bits. -/
abbrev Line := BitVec 256

/-- The index of a segment, 0 to 127 (R1). -/
abbrev SegIdx := Fin 128

end Sys2Proof
end

