-- ==== Sys2Proof/Syntax.lean ====
section
/-! DEFINITION. The commands of the JM416: one constructor for each row of spec/opcode_table.json, with the frame-bus
transfers and terminations they carry. -/

namespace Sys2Proof

/-- Transfer sizes (R128). -/
inductive Size where
  | byte | half | word | line
deriving DecidableEq, Repr

/-- Number of bytes a transfer of the size carries (R128). -/
def Size.bytes : Size → Nat
  | .byte => 1
  | .half => 2
  | .word => 4
  | .line => 32

/-- Direction, kind and data of a transfer (R128). A LOCKED transfer is a read or a write, a LOCKED_LAST transfer is
always a write, and an ACKNOWLEDGE carries a level. The data of a write stand in the low bits. -/
inductive Op where
  | read
  | lockedRead
  | write (data : Line)
  | lockedWrite (data : Line)
  | lockedLastWrite (data : Line)
  | acknowledge (level : BitVec 3)
deriving DecidableEq, Repr

/-- A camera-side transfer (R128). The address and size of an ACKNOWLEDGE are not used. -/
structure Transfer where
  initiator : BitVec 3
  addr : BitVec 40
  size : Size
  op : Op
deriving DecidableEq, Repr

/-- Memory's termination of a memory-side transfer (R145): DONE, with the data a read returns, or FAULT. -/
inductive Termination where
  | done (data : Line)
  | fault
deriving DecidableEq, Repr

/-- The commands: the steps of spec/opcode_table.json, in the table's order. `initiator` is the camera-side master;
`tag` and `arg` are the fields of a command word (R176); a `slot` or `entry` is the model's own number of an intake
slot or a placement entry, and says which of several transfers in flight memory terminates (R145). -/
inductive Instr where
  | resetAssert
  | resetRelease (base level : BitVec 3)
  | cameraTransfer (t : Transfer)
  | rawWrite (initiator : BitVec 3) (addr : BitVec 40) (size : Size) (data : Line)
  | intakeHoldRelease
  | commandHoldRelease
  | placementHoldRelease
  | copyHoldRelease
  | forwardTermination (result : Termination)
  | acknowledgeTransfer (initiator level : BitVec 3)
  | ackClearFlags (initiator : BitVec 3) (select : BitVec 31)
  | ackClearCounters (initiator : BitVec 3) (select : BitVec 31)
  | loadPlan (initiator : BitVec 3) (tag : BitVec 8) (arg : BitVec 16)
  | openStack (initiator : BitVec 3) (tag : BitVec 8) (arg : BitVec 16)
  | renderStack (initiator : BitVec 3) (tag : BitVec 8) (arg : BitVec 16)
  | discardStack (initiator : BitVec 3) (tag : BitVec 8) (arg : BitVec 16)
  | openExposure (initiator : BitVec 3) (tag : BitVec 8) (arg : BitVec 16)
  | closeExposure (initiator : BitVec 3) (tag : BitVec 8) (arg : BitVec 16)
  | setWatch (initiator : BitVec 3) (tag : BitVec 8) (arg : BitVec 16)
  | setEnables (initiator : BitVec 3) (tag : BitVec 8) (arg : BitVec 16)
  | report (initiator : BitVec 3) (tag : BitVec 8) (arg : BitVec 16)
  | restart (initiator : BitVec 3) (tag : BitVec 8) (arg : BitVec 16)
  | badCommand (initiator : BitVec 3) (code tag : BitVec 8) (arg : BitVec 16)
  | parameterReadDone (result : Termination)
  | planCheckReadDone (result : Termination)
  | planInstallReadDone (result : Termination)
  | restartEnd
  | stallTimerExpiry (id : BitVec 16)
  | arbiterGrant
  | keepRawCopyDone (slot : Nat) (result : Termination)
  | flatReadDone (slot addr : Nat) (result : Termination)
  | calibratePixel
  | placementEntryStart
  | placementReadDone (entry : Nat) (result : Termination)
  | placementWriteDone (entry : Nat) (result : Termination)
  | clearWriteDone (result : Termination)
  | renderReadDone (result : Termination)
  | renderWriteDone (result : Termination)
  | statusWriteDone (result : Termination)
deriving DecidableEq, Repr

end Sys2Proof
end

