-- ==== Sys2Proof/Decode.lean ====
section
/-! DEFINITION. The decoder of the table's words. spec/opcode_table.json gives no row any bits: its rows are steps, not
encodings, and every "fields" list is empty. So no word spells a command. (The words the part does decode, the command
word and the acknowledge word, are R176's, and stand in Machine/Operands.lean.) -/

namespace Sys2Proof

/-- The command that the low `nbits` bits of `w` spell by the table's bits: none, since the table gives none. -/
def decodeTableWord (_nbits _w : Nat) : Option Instr := none

end Sys2Proof
end

