-- ==== Sys2Proof/Config.lean ====
section
/-! DEFINITION. What the part fixes for good (capacities and offsets the spec states) and the free values: results
the spec states no value for, each an opaque constant that nothing can evaluate. -/

namespace Sys2Proof.Config

/-- The intake buffer holds up to 8 slots (R60). -/
def intakeCapacity : Nat := 8

/-- The exposure queue holds at most 4 records (R22). -/
def queueCapacity : Nat := 4

/-- The retired list holds up to 4 records (R32). -/
def retiredCapacity : Nat := 4

/-- The placement queue holds up to 32 entries (R82). -/
def placementCapacity : Nat := 32

/-- The depth cap of a cell (R81). -/
def depthCap : Nat := 63

/-- The sweep is served at the latest after 15 internal grants to others (R148). -/
def sweepPatience : Nat := 15

/-- The top of the 40-bit address space. -/
def addressSpace : Nat := 2 ^ 40

/-- The control area is 64 KiB (R156). -/
def controlAreaSize : Nat := 65536

/-- The control area of BASE strap value `n` lies at `n × 0x0800_0000` (R156). -/
def controlAreaStep : Nat := 0x08000000

/-- Free value: the true column of data column `d` when the record's K is 0, which R1 excludes and R16 gives no
value for. Only a plan that changed between the two passes can install such a record (log entry 9). -/
opaque columnWithoutKernel : Nat → Nat

/-- Free value: the oriented position of `(u, v)` under an orientation code above 7, which R1 excludes and R17
gives no row for (log entry 9). -/
opaque placeWithoutOrientation : Nat → Nat → Nat → Int × Int

/-- Free value: the step of a bias estimate for a difference under a smoothing shift above 7, which R1 excludes and R54
gives no step for (log entry 9). -/
opaque stepBeyondShift : Nat → Int → Int

/-- Free value: the flat value of a flat address at the last byte of its line, read from that line. Only an odd flat base,
which R1 excludes, puts one there; its half-word would run past the line, and R64 gives no value for it (log entry 9). -/
opaque flatPastLine : Line → BitVec 16

end Sys2Proof.Config
end

