-- ==== Sys2Proof/Machine/State.lean ====
section
/-! DEFINITION. The state of the JM416, block by block, as plain data, the reasons a step can stop, and the state right
after a pin reset. Numbers that the manual treats as mathematical integers are `Nat` or `Int`; words, masks and flag
registers are bit vectors. -/

namespace Sys2Proof.Machine

/-! ### Camera-side port -/

/-- The termination the C-port gives a camera-side master (R128). DONE carries the data a read or an answered
ACKNOWLEDGE returns, and 0 for a write. -/
inductive Answer where
  | done (data : Line)
  | split
  | retry
  | fault
deriving DecidableEq, Repr

/-- Why the C-port holds its current transfer (R129), with the placement entries or the keep-raw copies noted. -/
inductive HoldReason where
  | intakeFull
  | command
  | placement (noted : List Nat)
  | copy (noted : List Nat)
deriving DecidableEq, Repr

/-- Stage of the current transfer (R129). The stage "classified" lies inside one step (log entry 10). -/
inductive Stage where
  | forwarding
  | held (reason : HoldReason)
deriving DecidableEq, Repr

/-- The current transfer of the C-port (R129). -/
structure Current where
  transfer : Transfer
  stage : Stage
deriving DecidableEq, Repr

/-- The lock record (R141): the locking initiator and the address of the locked line. -/
structure LockRecord where
  initiator : BitVec 3
  line : Nat
deriving DecidableEq, Repr

/-! ### Segment table -/

/-- Unit of a raw limit (R1). -/
inductive Granularity where
  | byte | page
deriving DecidableEq, Repr

/-- The initiator whose writes are taken (R1). The number is the byte read from the plan, 0 to 7 once checked. -/
inductive Writer where
  | any
  | only (initiator : Nat)
deriving DecidableEq, Repr

/-- A segment record (R1), with the manual's letters. `flatBase` absent is NONE. -/
structure SegRecord where
  valid : Bool
  rawBase : Nat
  rawLimit : Nat
  granularity : Granularity
  writer : Writer
  prescan : Nat
  W : Nat
  ov : Nat
  H : Nat
  K : Nat
  keepRaw : Bool
  S : Nat
  G : Nat
  biasSeed : Nat
  k : Nat
  flatBase : Option Nat
  X0 : Nat
  Y0 : Nat
  orientation : Nat
deriving DecidableEq, Repr

/-- A segment record after pin reset (R11): invalid, every other field zero, flat base NONE. -/
def SegRecord.empty : SegRecord :=
  { valid := false, rawBase := 0, rawLimit := 0, granularity := .byte, writer := .only 0, prescan := 0, W := 0, ov := 0,
    H := 0, K := 0, keepRaw := false, S := 0, G := 0, biasSeed := 0, k := 0, flatBase := none, X0 := 0, Y0 := 0,
    orientation := 0 }

/-! ### Segment progress -/

/-- State of a progress record, with its current exposure (R33): absent when IDLE. -/
inductive ProgressState where
  | idle
  | armed (exposure : Nat)
  | reading (exposure : Nat)
deriving DecidableEq, Repr

/-- The overscan accumulator when present (R49). -/
structure Accumulator where
  row : Nat
  sum : Nat
  n : Nat
  max : Nat
deriving DecidableEq, Repr

/-- A progress record (R33). -/
structure Progress where
  state : ProgressState
  count : Nat
  B : Nat
  acc : Option Accumulator
deriving DecidableEq, Repr

/-- A progress record after pin reset (R46, R58). -/
def Progress.empty : Progress := { state := .idle, count := 0, B := 0, acc := none }

/-! ### Exposures -/

/-- One of the two stack slots (R97). -/
inductive StackSlot where
  | zero | one
deriving DecidableEq, Repr

/-- Lifecycle state of an exposure (R25). -/
inductive ExposureState where
  | queued | reading | draining | done
deriving DecidableEq, Repr

/-- Cut reason (R26). -/
inductive CutReason where
  | short | closed | stalled
deriving DecidableEq, Repr

/-- Outcome of an exposure (R26): COMPLETE or CUT, with or without the DEGRADED mark. -/
structure ExposureOutcome where
  cut : Bool
  degraded : Bool
deriving DecidableEq, Repr

/-- The eight tallies (R21). -/
structure Tallies where
  taken : Nat
  offFrame : Nat
  masked : Nat
  saturated : Nat
  placed : Nat
  overflow : Nat
  lost : Nat
  degraded : Nat
deriving DecidableEq, Repr

/-- All eight tallies 0 (R24). -/
def Tallies.zero : Tallies :=
  { taken := 0, offFrame := 0, masked := 0, saturated := 0, placed := 0, overflow := 0, lost := 0, degraded := 0 }

/-- An exposure record (R21). Bit `i` of a set stands for segment `i`. A timer of 0 has run out and its expiry is due
(log entry 3). -/
structure Exposure where
  id : Nat
  stackSlot : StackSlot
  dx : Int
  dy : Int
  E : Nat
  stallTimeout : Nat
  segSet : BitVec 128
  state : ExposureState
  cutReason : Option CutReason
  outcome : Option ExposureOutcome
  ended : BitVec 128
  outstanding : Nat
  timer : Option Nat
  tallies : Tallies
deriving DecidableEq, Repr

/-- A retired record (R32). -/
structure Retired where
  id : Nat
  stackSlot : StackSlot
  dx : Int
  dy : Int
  outcome : Option ExposureOutcome
  cutReason : Option CutReason
  tallies : Tallies
deriving DecidableEq, Repr

/-! ### Intake -/

/-- Position class of a pixel (R15), with its row and, for a data pixel, its data column. -/
inductive PixelClass where
  | overrun
  | prescan
  | overscan (row : Nat)
  | data (row col : Nat)
deriving DecidableEq, Repr

/-- One pixel of an intake slot: its raw value and its decision (R59). `taken` says that it was taken for the exposure. -/
structure SlotPixel where
  raw : Nat
  cls : PixelClass
  taken : Bool
deriving DecidableEq, Repr

/-- Status of a flat line (R59). -/
inductive FlatStatus where
  | pending
  | read (line : Line)
  | faulted
deriving DecidableEq, Repr

/-- A flat line a slot needs (R62). -/
structure FlatLine where
  addr : Nat
  status : FlatStatus
deriving DecidableEq, Repr

/-- State of a keep-raw copy (R59). -/
inductive CopyState where
  | none | waiting | handed
deriving DecidableEq, Repr

/-- An intake slot (R59). `tag` is the model's own number of the slot. -/
structure IntakeSlot where
  tag : Nat
  seg : SegIdx
  addr : Nat
  size : Size
  pixels : List SlotPixel
  record : SegRecord
  B : Nat
  exposure : Option Nat
  flats : List FlatLine
  copy : CopyState
  cursor : Nat
deriving DecidableEq, Repr

/-! ### Placement -/

/-- Kind of a contribution (R73): an ADD of a value, with or without the degraded mark, or a SAT_ONLY. -/
inductive ContribKind where
  | add (V : Int) (degraded : Bool)
  | satOnly
deriving DecidableEq, Repr

/-- A contribution (R73). Its cell line and lane are those of the entry that holds it. -/
structure Contribution where
  kind : ContribKind
  exposure : Nat
  stackSlot : StackSlot
  x : Nat
  y : Nat
deriving DecidableEq, Repr

/-- The fate of a data pixel (R30). -/
inductive Fate where
  | offFrame | masked | saturated
  | placed (degraded : Bool)
  | overflow | lost
deriving DecidableEq, Repr

/-- State of a placement entry (R82), with the line image and the kept fates, by exposure id, in WRITING (R87). -/
inductive EntryState where
  | waiting
  | reading
  | writing (image : Line) (fates : List (Nat × Fate))
deriving DecidableEq, Repr

/-- A placement entry (R82). `tag` is the model's own number of the entry. -/
structure Entry where
  tag : Nat
  line : Nat
  lanes : Vector (Option Contribution) 4
  state : EntryState
deriving DecidableEq, Repr

/-- A cell (R76). -/
structure Cell where
  sum : Int
  peak : Int
  count : Nat
  sat : Bool
  deg : Bool
deriving DecidableEq, Repr

/-! ### Stacks -/

/-- State of a stack (R97). -/
inductive StackState where
  | empty | clearing | openState | rendering | rendered
deriving DecidableEq, Repr

/-- A stack record (R97). Its slot is its place in `State`. -/
structure StackRecord where
  state : StackState
  cellBase : Nat
  outputBase : Nat
  width : Nat
  height : Nat
  Nrej : Nat
  cursor : Nat
  refCount : Nat
deriving DecidableEq, Repr

/-- A stack record after pin reset (R117). -/
def StackRecord.reset : StackRecord :=
  { state := .empty, cellBase := 0, outputBase := 0, width := 0, height := 0, Nrej := 0, cursor := 0, refCount := 0 }

/-- Which transfer of its line the sweep engine is at (R105, R109). After the first render read the four output pixels
of the first cell line are kept, if it was read DONE; after the second, the output line. -/
inductive SweepStep where
  | clear
  | renderRead0
  | renderRead1 (lo : Option Nat)
  | renderWrite (line : Line)
deriving DecidableEq, Repr

/-- The sweep engine's row in work (R104): the stack, the cell line (clear) or output line (render) within the cursor
row, and the step. -/
structure SweepWork where
  slot : StackSlot
  line : Nat
  step : SweepStep
deriving DecidableEq, Repr

/-! ### Watch entries -/

/-- The value-or-SAT of a hit record (R119). -/
inductive HitValue where
  | add (V : Int)
  | sat
deriving DecidableEq, Repr

/-- A hit record (R119). -/
structure HitRecord where
  exposure : Nat
  x : Nat
  y : Nat
  value : HitValue
deriving DecidableEq, Repr

/-- A watch entry (R119). -/
structure WatchEntry where
  enabled : Bool
  stackSlot : StackSlot
  x : Nat
  y : Nat
  threshold : Int
  hit : Option HitRecord
  hitCount : Nat
deriving DecidableEq, Repr

/-- A watch entry after pin reset (R127). -/
def WatchEntry.reset : WatchEntry :=
  { enabled := false, stackSlot := .zero, x := 0, y := 0, threshold := 0, hit := none, hitCount := 0 }

/-! ### Memory-side port -/

/-- The class favoured at the next grant (R147). -/
inductive Turn where
  | forward | internal
deriving DecidableEq, Repr

/-- The hold of the port for a locked sequence (R147). -/
inductive LockState where
  | free | draining | held
deriving DecidableEq, Repr

/-- The requester of a memory-side transfer (R146), with what its termination acts on. -/
inductive Owner where
  | forward
  | copy (slot : Nat)
  | status
  | command
  | placement (entry : Nat)
  | flat (slot : Nat)
  | clear (slot : StackSlot)
  | renderRead (slot : StackSlot)
  | renderWrite (slot : StackSlot)
deriving DecidableEq, Repr

/-- A memory-side transfer (R145). The part's own transfers are PLAIN and name no initiator; a mask names the lanes of a
LINE write that memory stores. -/
structure MemTransfer where
  initiator : Option (BitVec 3)
  addr : Nat
  size : Size
  op : Op
  mask : Option (BitVec 4)
deriving DecidableEq, Repr

/-- A transfer in flight (R145). `live` is lost when its requester lets it go (R115, R155); its termination then has no
effect. -/
structure InFlight where
  owner : Owner
  transfer : MemTransfer
  live : Bool
deriving DecidableEq, Repr

/-! ### Command engine -/

/-- The commands of codes 1 to 10 (R176). -/
inductive CommandCode where
  | loadPlan | openStack | renderStack | discardStack | openExposure | closeExposure | setWatch | setEnables | report
  | restart
deriving DecidableEq, Repr

/-- The result codes (R176). -/
inductive ResultCode where
  | none | ok | badCommand | badParameter | queueFull | duplicateId | noSuchExposure | alreadyEnded | stackState
  | stackInUse | overlap | inUse | planInvalid | planReadFault | planLost
deriving DecidableEq, Repr

/-- The current command (10.2): captured code, tag and argument. -/
structure CurrentCommand where
  code : CommandCode
  tag : BitVec 8
  arg : BitVec 16
deriving DecidableEq, Repr

/-- Where the command in execution stands. `params first`: reading the parameter block, with the first line once read
(R158). `planCheck`, `planInstall`: reading record `i` in pass 1 or 2, with its first line once read; pass 1 keeps the
raw windows (base and size) of the valid records already passed (R4, R6, R7). `discarding was`: waiting for a stopped
sweep's transfer in flight, with the state number the stack held (R115). `draining`: RESTART waiting for the in-flight
set to empty (R164). -/
inductive Phase where
  | params (first : Option Line)
  | planCheck (i : SegIdx) (first : Option Line) (windows : List (Nat × Nat))
  | planInstall (i : SegIdx) (first : Option Line)
  | discarding (was : Nat)
  | draining
deriving DecidableEq, Repr

/-- The command engine (10.2): IDLE or EXECUTING. -/
inductive Engine where
  | idle
  | executing (command : CurrentCommand) (phase : Phase)
deriving DecidableEq, Repr

/-- The last result (10.2). -/
structure LastResult where
  tag : BitVec 8
  code : BitVec 8
  result : ResultCode
  detail : Nat
deriving DecidableEq, Repr

/-- The last result after pin reset (R175). -/
def LastResult.reset : LastResult := { tag := 0, code := 0, result := .none, detail := 0 }

/-! ### The whole -/

/-- The state of the part. Fields in the order of the block table of 00_scope.md. The model's own fields are the last
six. -/
structure State where
  /-- RESET is asserted (R143, R155). -/
  resetAsserted : Bool
  /-- n of the BASE straps (R156). -/
  base : BitVec 3
  /-- The attention level of the LEVEL straps (R156). -/
  level : BitVec 3
  /-- The C-port's current transfer (R129). -/
  current : Option Current
  /-- The C-port's lock record (R141). -/
  lock : Option LockRecord
  /-- The segment table (R1). -/
  segs : Vector SegRecord 128
  /-- The progress records (R33). -/
  progress : Vector Progress 128
  /-- The exposure queue, head first (R22). -/
  queue : List Exposure
  /-- The retired list, newest first (R32). -/
  retired : List Retired
  /-- The intake buffer, head first (R60). -/
  intake : List IntakeSlot
  /-- The placement queue in formation order (R82). -/
  entries : List Entry
  /-- The entry whose read or write the placement engine has presented and the arbiter not yet granted (R86). -/
  placePresented : Option Nat
  /-- The stack record of slot 0 (R97). -/
  stack0 : StackRecord
  /-- The stack record of slot 1 (R97). -/
  stack1 : StackRecord
  /-- The sweep engine's row in work (R104). -/
  sweep : Option SweepWork
  /-- The watch entries (R119). -/
  watch : Vector WatchEntry 4
  /-- The arbiter's turn (R147). -/
  turn : Turn
  /-- The sweep wait count (R147). -/
  sweepWait : Nat
  /-- The arbiter's lock state (R147). -/
  lockState : LockState
  /-- The in-flight set, oldest grant first (R147). -/
  inFlight : List InFlight
  /-- The leading copy of the initial rewrite is still to be the port's first grant (R155). -/
  initialLead : Bool
  /-- The command engine (10.2). -/
  engine : Engine
  /-- The last result (10.2). -/
  last : LastResult
  /-- The flags, bit `n − 1` for flag `n` (R166). -/
  flags : BitVec 15
  /-- The enable mask, same bits (R167). -/
  enables : BitVec 15
  /-- The attention line (R167). -/
  attn : Bool
  /-- The eight part-wide counters (R170). -/
  counters : Vector (BitVec 32) 8
  /-- The rewrite count (R173). -/
  rewriteCount : BitVec 32
  /-- The rewrite in progress: the number of its next or current write, 0 the leading copy, 1 to 86 the body, 87 the
  trailing copy (R173). -/
  rewrite : Option Nat
  /-- The pending-rewrite mark (R172). -/
  mark : Bool
  /-- Model's own: a status rewrite was requested within the step (log entry 4). Clear between steps. -/
  requested : Bool
  /-- Model's own: the retirements within the step, each of which requests a rewrite (R31, log entry 4). 0 between
  steps. -/
  retirements : Nat
  /-- Model's own: the terminations the C-port has given, newest first (log entry 2). -/
  answers : List (Transfer × Answer)
  /-- Model's own: the next intake slot's number (log entry 5). -/
  nextSlot : Nat
  /-- Model's own: the next placement entry's number (log entry 5). -/
  nextEntry : Nat
  /-- Model's own: the commands that are waiting, first in, first out. -/
  pending : List Instr
deriving DecidableEq, Repr

/-- The state in which every block holds its pin-reset value (R11, R46, R58, R75, R95, R117, R127, R143, R147, R155,
R175), with the straps sampled as `base` and `level`. -/
def State.pinReset (base level : BitVec 3) : State :=
  { resetAsserted := false, base := base, level := level, current := none, lock := none,
    segs := Vector.replicate 128 SegRecord.empty, progress := Vector.replicate 128 Progress.empty,
    queue := [], retired := [], intake := [], entries := [], placePresented := none,
    stack0 := StackRecord.reset, stack1 := StackRecord.reset, sweep := none,
    watch := Vector.replicate 4 WatchEntry.reset,
    turn := .forward, sweepWait := 0, lockState := .free, inFlight := [], initialLead := false,
    engine := .idle, last := LastResult.reset, flags := 0, enables := 0, attn := false,
    counters := Vector.replicate 8 0, rewriteCount := 0, rewrite := none, mark := false, requested := false,
    retirements := 0, answers := [], nextSlot := 0, nextEntry := 0, pending := [] }

/-- The state right after the release of RESET: the pin-reset values, with the initial rewrite started as count 1 and its
leading copy due as the port's first grant (R155, R175). -/
def State.released (base level : BitVec 3) : State :=
  { State.pinReset base level with rewriteCount := 1, rewrite := some 0, initialLead := true }

/-- The machine right after reset: RESET released, with all straps low (DESIGN CHOICE, log entry 1: the straps are the
board's). -/
def State.reset : State := State.released 0 0

/-- No command stops the part: the spec gives every step of the table an effect, and a step whose condition does not
hold does not take place (log entry 6). So there is no fault. -/
inductive Fault where
deriving DecidableEq, Repr

/-- Why a command has no meaning. -/
inductive Refusal where
  /-- Raised by `exec` for a row that has no meaning yet: no row does. Safe: the model stops. -/
  | notModelled (mnemonic : String)
deriving DecidableEq, Repr

end Sys2Proof.Machine
end

