-- ==== Sys2Proof/Machine/Flags.lean ====
section
/-! DEFINITION. The report unit's registers: the 15 flags, the enable mask, the attention line, the eight counters, and
the request and start of a status rewrite (R164 to R174). -/

namespace Sys2Proof.Machine

/-- The 15 flags (R166). -/
inductive Flag where
  | memoryFault | stackFault | reportFault | malformedRaw | blockedWrite | commandRefusedBusy | exposureCut
  | depthOverflow | biasRowLost | orphanPixels | watchHit | exposureDone | stackRendered | stackReady | commandDone
deriving DecidableEq, Repr

/-- A flag's bit position in the flag, enable and acknowledge words: its number less one (R166). -/
def Flag.bit : Flag → Nat
  | .memoryFault => 0
  | .stackFault => 1
  | .reportFault => 2
  | .malformedRaw => 3
  | .blockedWrite => 4
  | .commandRefusedBusy => 5
  | .exposureCut => 6
  | .depthOverflow => 7
  | .biasRowLost => 8
  | .orphanPixels => 9
  | .watchHit => 10
  | .exposureDone => 11
  | .stackRendered => 12
  | .stackReady => 13
  | .commandDone => 14

/-- The word with the flag's bit alone. -/
def Flag.mask (f : Flag) : BitVec 15 := 1#15 <<< f.bit

/-- The flag is set. -/
def State.flagSet (s : State) (f : Flag) : Bool := s.flags.getLsbD f.bit

/-- The attention line as a function of flags and enables: some flag is both set and enabled (R167). -/
def attention (flags enables : BitVec 15) : Bool := flags &&& enables != 0#15

/-- Request a status rewrite (R172). The requests of one step are taken at its end, as one; only the retirements of a
step request one by one (log entry 4). -/
def State.request (s : State) : State := { s with requested := true }

/-- A setting event of a flag (R166): a flag already set changes nothing; a flag change recomputes the attention line
(R167) and requests a rewrite. -/
def State.setFlag (f : Flag) (s : State) : State :=
  if s.flagSet f then s
  else { s with flags := s.flags ||| f.mask, attn := attention (s.flags ||| f.mask) s.enables, requested := true }

/-- Clear the selected flags (R168): each that was set is a flag change. -/
def State.clearFlags (select : BitVec 15) (s : State) : State :=
  if s.flags &&& select = 0#15 then s
  else { s with flags := s.flags &&& ~~~select, attn := attention (s.flags &&& ~~~select) s.enables, requested := true }

/-- Replace the enable mask and recompute the attention line (R162, R167). -/
def State.replaceEnables (mask : BitVec 15) (s : State) : State :=
  { s with enables := mask, attn := attention s.flags mask }

/-- The eight part-wide counters (R170). -/
inductive Counter where
  | orphanPixels | malformedRaw | blockedWrites | memoryFaults | biasRowsLost | busyRefusals | shortFrames
  | depthOverflows
deriving DecidableEq, Repr

/-- A counter's index (R170). -/
def Counter.index : Counter → Fin 8
  | .orphanPixels => 0
  | .malformedRaw => 1
  | .blockedWrites => 2
  | .memoryFaults => 3
  | .biasRowsLost => 4
  | .busyRefusals => 5
  | .shortFrames => 6
  | .depthOverflows => 7

/-- A saturating 32-bit count raised by one (R170). -/
def saturatingSucc (c : BitVec 32) : BitVec 32 := if c = BitVec.allOnes 32 then c else c + 1

/-- The value of a counter. -/
def State.counter (s : State) (c : Counter) : BitVec 32 := s.counters[c.index]

/-- A counter's rise (R170). It requests nothing. -/
def State.bump (c : Counter) (s : State) : State :=
  { s with counters := s.counters.set c.index.1 (saturatingSucc s.counters[c.index]) c.index.2 }

/-- All eight counters become 0, and a rewrite is requested (R168). -/
def State.clearCounters (s : State) : State := { s with counters := Vector.replicate 8 0, requested := true }

/-- A fault on one of the part's own transfers: MEMORY_FAULT is set and the memory-fault counter rises (R154). -/
def State.memoryFault (s : State) : State := (s.setFlag .memoryFault).bump .memoryFaults

/-- The number of the lowest flag that is set in `w`, searching from bit `n` down the list; 0 if none is. -/
def lowestFlag (w : BitVec 15) : List Nat → Nat
  | [] => 0
  | n :: rest => if w.getLsbD n then n + 1 else lowestFlag w rest

/-- The cause of an answered acknowledge transfer (R171). -/
def State.cause (s : State) : Nat :=
  if s.attn then lowestFlag (s.flags &&& s.enables) (List.range 15) else 0

/-- RESTART has taken effect and not ended (R164). -/
def State.restartDraining (s : State) : Bool :=
  match s.engine with
  | .executing _ .draining => true
  | _ => false

/-- Start a rewrite: the count rises by one, wrapping, and the leading copy is due (R173). -/
def State.startRewrite (s : State) : State := { s with rewriteCount := s.rewriteCount + 1, rewrite := some 0 }

/-- The number of rewrite requests a step has made: one for all its events together, or one for each of its retirements
(R31, R172; log entry 4). -/
def State.requests (s : State) : Nat := max (if s.requested then 1 else 0) s.retirements

/-- One request is taken (R172): a rewrite starts unless one is in progress or a RESTART drains (R164), when the
pending-rewrite mark is set. -/
def State.takeRequest (s : State) : State :=
  if s.rewrite.isSome || s.restartDraining then { s with mark := true } else s.startRewrite

/-- Take a number of requests, one after the other (R172). -/
def State.takeRequests : Nat → State → State
  | 0, s => s
  | n + 1, s => State.takeRequests n s.takeRequest

/-- Take the step's requests (R172). -/
def State.settleRequests (s : State) : State :=
  State.takeRequests s.requests { s with requested := false, retirements := 0 }

/-- A rewrite ends, by completion or abandonment (R172): a set mark is cleared and a new rewrite starts. -/
def State.endRewrite (s : State) : State :=
  if s.mark then { s with mark := false }.startRewrite else { s with rewrite := none }

end Sys2Proof.Machine
end

