-- ==== Sys2Proof/WellFormed.lean ====
section
/-! DEFINITION. Which commands the frame bus and the part's neighbours can present: R128's alignment, data width and
acknowledge level, R133's sizes of a raw write, R157's codes of a bad command and R20's alignment of a flat line. -/

namespace Sys2Proof

/-- The address is naturally aligned (R128). -/
def Transfer.aligned (t : Transfer) : Bool :=
  match t.op with
  | .acknowledge _ => true
  | _ => t.addr.toNat % t.size.bytes == 0

/-- A write carries no bits beyond its size (R128). -/
def Transfer.dataFits (t : Transfer) : Bool :=
  match t.op with
  | .write d | .lockedWrite d | .lockedLastWrite d => decide (d.toNat < 2 ^ (8 * t.size.bytes))
  | _ => true

/-- An ACKNOWLEDGE carries a level from 1 to 7 (R128). -/
def Transfer.levelOk (t : Transfer) : Bool :=
  match t.op with
  | .acknowledge l => l != 0#3
  | _ => true

/-- A transfer the camera-side bus can carry (R128). -/
def Transfer.wf (t : Transfer) : Bool := t.aligned && t.dataFits && t.levelOk

/-- A command that its sender can present. -/
def Instr.wf : Instr → Bool
  | .cameraTransfer t => t.wf
  | .rawWrite i a z d => (Transfer.mk i a z (.write d)).wf && z != .byte
  | .acknowledgeTransfer _ l => l != 0#3
  | .badCommand _ code _ _ => decide (code.toNat = 0 ∨ 10 < code.toNat)
  | .flatReadDone _ a _ => a % 32 == 0
  | _ => true

end Sys2Proof
end

