-- ==== Sys2Proof/Machine/Ops.lean ====
section
/-! DEFINITION. The named operations the blocks share: bytes within words, address regions, the control area, the stack
records by slot, the C-port's terminations, and the in-flight set. -/

namespace Sys2Proof.Machine

/-! ### Bytes and numbers -/

/-- The little-endian number in the `size` bytes at byte `off` of `n` (00_scope.md). -/
def bytesAt (n off size : Nat) : Nat := (n >>> (8 * off)) % 2 ^ (8 * size)

/-- The number whose `size` bytes at byte `off` hold `v`, every other byte 0. -/
def placeAt (off size v : Nat) : Nat := (v % 2 ^ (8 * size)) <<< (8 * off)

/-- The signed value of a `bits`-bit number. -/
def signedOf (bits n : Nat) : Int := if n < 2 ^ (bits - 1) then n else (n : Int) - 2 ^ bits

/-- The `bits`-bit number of a signed value, reduced modulo `2 ^ bits`. -/
def unsignedOf (bits : Nat) (x : Int) : Nat := (x % 2 ^ bits).toNat

/-- `x / d` rounded to nearest with ties upward, for `d` above 0 (00_scope.md). -/
def roundUp (x : Int) (d : Nat) : Int := (2 * x + d) / (2 * (d : Int))

/-- `x / d` rounded to nearest with ties away from zero, for `d` above 0 (00_scope.md). -/
def roundAway (x : Int) (d : Nat) : Int :=
  if 0 ≤ x then (2 * x + d) / (2 * (d : Int)) else -((2 * -x + d) / (2 * (d : Int)))

/-- Clamp to a range (00_scope.md). -/
def clamp (lo hi x : Int) : Int := if x < lo then lo else if hi < x then hi else x

/-- Clamp to the range of a contribution (R71, R110). -/
def clampQe (x : Int) : Int := clamp (-8388608) 8388607 x

/-! ### Regions -/

/-- The line containing an address (00_scope.md). -/
def lineOf (a : Nat) : Nat := a - a % 32

/-- Two regions, each a base and a size, share a byte (00_scope.md). -/
def overlaps (a la b lb : Nat) : Bool := decide (max a b < min (a + la) (b + lb))

end Sys2Proof.Machine

namespace Sys2Proof

/-- The address of a transfer as a number. -/
def Transfer.start (t : Transfer) : Nat := t.addr.toNat

/-- The number of bytes of memory a transfer addresses: none for an ACKNOWLEDGE (R140). -/
def Transfer.len (t : Transfer) : Nat :=
  match t.op with
  | .acknowledge _ => 0
  | _ => t.size.bytes

/-- A byte of the transfer lies in the region (R130). -/
def Transfer.touches (t : Transfer) (base size : Nat) : Bool := Machine.overlaps t.start t.len base size

/-- Every byte of the transfer lies in the region. -/
def Transfer.inside (t : Transfer) (base size : Nat) : Bool := decide (base ≤ t.start ∧ t.start + t.len ≤ base + size)

/-- The transfer is a PLAIN read. -/
def Transfer.isPlainRead (t : Transfer) : Bool := t.op == .read

/-- The transfer is a LOCKED read. -/
def Transfer.isLockedRead (t : Transfer) : Bool := t.op == .lockedRead

/-- The transfer is a PLAIN write. -/
def Transfer.isPlainWrite (t : Transfer) : Bool :=
  match t.op with
  | .write _ => true
  | _ => false

/-- The transfer is a LOCKED or LOCKED_LAST write (R130). -/
def Transfer.isLockedWrite (t : Transfer) : Bool :=
  match t.op with
  | .lockedWrite _ | .lockedLastWrite _ => true
  | _ => false

/-- The transfer is a LOCKED_LAST write. -/
def Transfer.isLockedLast (t : Transfer) : Bool :=
  match t.op with
  | .lockedLastWrite _ => true
  | _ => false

/-- The transfer is a write, of whatever kind. -/
def Transfer.isWrite (t : Transfer) : Bool := t.isPlainWrite || t.isLockedWrite

/-- The data of a write, 0 for any other transfer. -/
def Transfer.data (t : Transfer) : Line :=
  match t.op with
  | .write d | .lockedWrite d | .lockedLastWrite d => d
  | _ => 0

end Sys2Proof

namespace Sys2Proof.Machine

/-- A memory-side transfer touches the line at `line` (R150). -/
def MemTransfer.touchesLine (x : MemTransfer) (line : Nat) : Bool :=
  match x.op with
  | .acknowledge _ => false
  | _ => overlaps x.addr x.size.bytes line 32

/-- A LINE read of the part's own (R146). -/
def lineRead (addr : Nat) : MemTransfer := { initiator := none, addr := addr, size := .line, op := .read, mask := none }

/-- A write of the part's own (R146). -/
def ownWrite (addr : Nat) (size : Size) (data : Line) (mask : Option (BitVec 4)) : MemTransfer :=
  { initiator := none, addr := addr, size := size, op := .write data, mask := mask }

/-- A forwarded transfer, unchanged (R131). -/
def forwarded (t : Transfer) : MemTransfer :=
  { initiator := some t.initiator, addr := t.start, size := t.size, op := t.op, mask := none }

/-- The control area's base (R156). -/
def State.controlBase (s : State) : Nat := s.base.toNat * Config.controlAreaStep

/-! ### Stack records by slot -/

/-- The slot of number 0 or 1. -/
def slotOf : Nat → Option StackSlot
  | 0 => some .zero
  | 1 => some .one
  | _ => none

/-- A slot's number. -/
def StackSlot.number : StackSlot → Nat
  | .zero => 0
  | .one => 1

/-- The other slot. -/
def StackSlot.other : StackSlot → StackSlot
  | .zero => .one
  | .one => .zero

/-- The stack record of a slot. -/
def State.stack (s : State) : StackSlot → StackRecord
  | .zero => s.stack0
  | .one => s.stack1

/-- Replace the stack record of a slot. -/
def State.setStack (k : StackSlot) (r : StackRecord) (s : State) : State :=
  match k with
  | .zero => { s with stack0 := r }
  | .one => { s with stack1 := r }

/-- Replace the progress record of a segment. -/
def State.setProgress (i : SegIdx) (p : Progress) (s : State) : State :=
  { s with progress := s.progress.set i.1 p i.2 }

/-! ### The C-port's terminations -/

/-- The C-port gives a transfer its termination, and its current transfer becomes absent (R129). -/
def State.answer (t : Transfer) (a : Answer) (s : State) : State :=
  { s with current := none, answers := (t, a) :: s.answers }

/-- The C-port holds a transfer (R129). -/
def State.hold (t : Transfer) (reason : HoldReason) (s : State) : State :=
  { s with current := some { transfer := t, stage := .held reason } }

/-- The lock record becomes absent, and the arbiter's lock state returns to NONE with it (R152). -/
def State.endLock (s : State) : State := { s with lock := none, lockState := .free }

/-! ### The in-flight set -/

/-- A transfer with this owner is in flight. -/
def State.inFlightFor (s : State) (o : Owner) : Bool := s.inFlight.any fun f => f.owner == o

/-- Issue a granted transfer (R147). -/
def State.issue (o : Owner) (x : MemTransfer) (s : State) : State :=
  { s with inFlight := s.inFlight ++ [{ owner := o, transfer := x, live := true }] }

/-- The oldest transfer in flight that `p` selects. -/
def State.findInFlight (s : State) (p : InFlight → Bool) : Option InFlight := s.inFlight.find? p

/-- The in-flight set without the oldest transfer that `p` selects: memory has terminated it (R145). -/
def State.land (p : InFlight → Bool) (s : State) : State := { s with inFlight := s.inFlight.eraseP p }

/-! ### The end of a command -/

/-- A command ends (R161): the last result is recorded, COMMAND_DONE is set, the engine returns to IDLE and a status
rewrite is requested. `code` is the number in the command word. -/
def State.endCommand (code tag : BitVec 8) (result : ResultCode) (detail : Nat) (s : State) : State :=
  ({ s with last := { tag := tag, code := code, result := result, detail := detail }, engine := .idle }.setFlag
    .commandDone).request

/-- One of the part's steps, as `exec` answers it: while RESET is asserted nothing takes place (R143, R155), and at the
step's end its rewrite requests are taken (R172). -/
def act (f : State → State) (s : State) : Host.Outcome State Fault Refusal :=
  .next (if s.resetAsserted then s else (f s).settleRequests)

end Sys2Proof.Machine
end

