-- ==== Sys2Proof/Machine/Operands.lean ====
section
/-! DEFINITION. Every memory-resident layout the part reads or writes, as R176 gives it: the command word, the parameter
block, the segment record, the cell and the output pixel. A structure is taken as one little-endian number. -/

namespace Sys2Proof.Machine

/-! ### Command word and acknowledge word -/

/-- Offset of the command word in the control area (R156). -/
def commandWordOffset : Nat := 0x0000

/-- Offset of the acknowledge word (R156). -/
def ackWordOffset : Nat := 0x0004

/-- The command of a code from 1 to 10 (R176). -/
def commandOf : Nat → Option CommandCode
  | 1 => some .loadPlan
  | 2 => some .openStack
  | 3 => some .renderStack
  | 4 => some .discardStack
  | 5 => some .openExposure
  | 6 => some .closeExposure
  | 7 => some .setWatch
  | 8 => some .setEnables
  | 9 => some .report
  | 10 => some .restart
  | _ => none

/-- A command's code (R176). -/
def CommandCode.number : CommandCode → Nat
  | .loadPlan => 1
  | .openStack => 2
  | .renderStack => 3
  | .discardStack => 4
  | .openExposure => 5
  | .closeExposure => 6
  | .setWatch => 7
  | .setEnables => 8
  | .report => 9
  | .restart => 10

/-- The current command ends (R161). -/
def State.finish (c : CurrentCommand) (result : ResultCode) (detail : Nat) (s : State) : State :=
  s.endCommand (BitVec.ofNat 8 c.code.number) c.tag result detail

/-- A result code's number in the last result (R176). -/
def ResultCode.number : ResultCode → Nat
  | .none => 0
  | .ok => 1
  | .badCommand => 2
  | .badParameter => 3
  | .queueFull => 4
  | .duplicateId => 5
  | .noSuchExposure => 6
  | .alreadyEnded => 7
  | .stackState => 8
  | .stackInUse => 9
  | .overlap => 10
  | .inUse => 11
  | .planInvalid => 12
  | .planReadFault => 13
  | .planLost => 14

/-- The command word: code in bits 7 to 0, tag in 15 to 8, argument in 31 to 16 (R176). -/
def commandWord (code tag : BitVec 8) (arg : BitVec 16) : BitVec 32 := arg ++ (tag ++ code)

/-- A command word's code. -/
def wordCode (w : BitVec 32) : BitVec 8 := w.extractLsb' 0 8

/-- A command word's tag. -/
def wordTag (w : BitVec 32) : BitVec 8 := w.extractLsb' 8 8

/-- A command word's argument. -/
def wordArg (w : BitVec 32) : BitVec 16 := w.extractLsb' 16 16

/-- An acknowledge word from its top bit and the bits below it (R168). -/
def ackWord (counters : Bool) (select : BitVec 31) : BitVec 32 := BitVec.ofBool counters ++ select

/-- The 32-bit word in the low bytes of a transfer's data. -/
def dataWord (d : Line) : BitVec 32 := d.setWidth 32

/-! ### Parameter block -/

/-- The parameter block's 64 bytes as one number, from its two lines (R158). Offsets below are from 0x40. -/
def block (first second : Line) : Nat := (second ++ first).toNat

/-- OPEN_STACK's parameters (R176). -/
structure StackParams where
  cellBase : Nat
  outputBase : Nat
  width : Nat
  height : Nat
  Nrej : Nat
deriving DecidableEq, Repr

/-- Read OPEN_STACK's parameters. -/
def stackParams (b : Nat) : StackParams :=
  { cellBase := bytesAt b 0 8, outputBase := bytesAt b 8 8, width := bytesAt b 0x10 2, height := bytesAt b 0x12 2,
    Nrej := bytesAt b 0x14 1 }

/-- OPEN_EXPOSURE's parameters (R176). -/
structure ExposureParams where
  slot : Nat
  dx : Int
  dy : Int
  E : Nat
  stallTimeout : Nat
  segSet : BitVec 128
deriving DecidableEq, Repr

/-- Read OPEN_EXPOSURE's parameters. Segment `i` is bit `i mod 8` of byte `i div 8` of the set: bit `i` of the number. -/
def exposureParams (b : Nat) : ExposureParams :=
  { slot := bytesAt b 0 1, dx := signedOf 16 (bytesAt b 2 2), dy := signedOf 16 (bytesAt b 4 2), E := bytesAt b 6 2,
    stallTimeout := bytesAt b 8 2, segSet := BitVec.ofNat 128 (bytesAt b 0x10 16) }

/-- SET_WATCH's parameters (R176). -/
structure WatchParams where
  enabled : Bool
  slot : Nat
  x : Nat
  y : Nat
  threshold : Int
deriving DecidableEq, Repr

/-- Read SET_WATCH's parameters. -/
def watchParams (b : Nat) : WatchParams :=
  { enabled := bytesAt b 0 1 % 2 == 1, slot := bytesAt b 1 1, x := bytesAt b 2 2, y := bytesAt b 4 2,
    threshold := signedOf 32 (bytesAt b 8 4) }

/-! ### Segment record -/

/-- Read a segment record from its 64 bytes (R176). -/
def segRecordOf (b : Nat) : SegRecord :=
  { valid := b.testBit 0
    granularity := if b.testBit 1 then .page else .byte
    keepRaw := b.testBit 2
    flatBase := if b.testBit 3 then some (bytesAt b 0x10 8) else none
    writer := if bytesAt b 1 1 = 0xFF then .any else .only (bytesAt b 1 1)
    orientation := bytesAt b 2 1
    k := bytesAt b 3 1
    rawLimit := bytesAt b 4 4
    rawBase := bytesAt b 8 8
    prescan := bytesAt b 0x18 2
    W := bytesAt b 0x1A 2
    ov := bytesAt b 0x1C 2
    H := bytesAt b 0x1E 2
    K := bytesAt b 0x20 2
    S := bytesAt b 0x22 2
    G := bytesAt b 0x24 2
    X0 := bytesAt b 0x26 2
    Y0 := bytesAt b 0x28 2
    biasSeed := bytesAt b 0x2C 4 }

/-! ### Cell and output pixel -/

/-- Read a cell from its 8 bytes (R176). -/
def cellOf (b : Nat) : Cell :=
  { sum := signedOf 32 (bytesAt b 0 4), peak := signedOf 24 (bytesAt b 4 3), count := bytesAt b 7 1 % 64,
    sat := b.testBit 62, deg := b.testBit 63 }

/-- A cell's 8 bytes (R176). -/
def cellBytes (c : Cell) : Nat :=
  placeAt 0 4 (unsignedOf 32 c.sum) + placeAt 4 3 (unsignedOf 24 c.peak)
    + placeAt 7 1 (c.count % 64 + (if c.sat then 64 else 0) + (if c.deg then 128 else 0))

/-- The 8 bytes at lane `j` of a line (R82). -/
def laneOf (l : Line) (j : Fin 4) : Nat := bytesAt l.toNat (8 * j.1) 8

/-- A line with the 8 bytes at lane `j` replaced. -/
def setLane (l : Line) (j : Fin 4) (v : Nat) : Line :=
  BitVec.ofNat 256 (l.toNat - placeAt (8 * j.1) 8 (laneOf l j) + placeAt (8 * j.1) 8 v)

/-- The flat value at address `a` of a flat line: the half-word at byte `a mod 32` (R64). At byte 31 the half-word would run
past the line, which only an odd flat base of a record installed unchecked (R7) brings about: a free value (log entry 9). -/
def flatValueAt (l : Line) (a : Nat) : Nat :=
  if a % 32 = 31 then (Config.flatPastLine l).toNat else bytesAt l.toNat (a % 32) 2

/-- The blank marker (R110). -/
def blankPixel : Int := -2147483648

/-- The saturation marker (R110). -/
def saturationPixel : Int := 2147483647

end Sys2Proof.Machine
end

