-- ==== Sys2Proof/Machine/Pixels.lean ====
section
/-! DEFINITION. Segment geometry and the way of one raw pixel from its address to its cell and its flat value
(R2, R3, R12 to R20), and the regions of a stack (R98). -/

namespace Sys2Proof.Machine

/-! ### Quantities derived from a record (R2) -/

/-- The row length in pixels (R2). -/
def SegRecord.rowlen (r : SegRecord) : Nat := r.prescan + r.W + r.ov

/-- The extent in pixels (R2). -/
def SegRecord.extent (r : SegRecord) : Nat := r.rowlen * r.H

/-- The window size in bytes (R2). -/
def SegRecord.windowSize (r : SegRecord) : Nat :=
  match r.granularity with
  | .byte => r.rawLimit + 1
  | .page => (r.rawLimit + 1) * 4096

/-- The writer check passes for an initiator (R132). -/
def Writer.allows (w : Writer) (initiator : BitVec 3) : Bool :=
  match w with
  | .any => true
  | .only n => n == initiator.toNat

/-- Every field lies within the values listed in R1 (first case of R3). -/
def SegRecord.fieldsInRange (r : SegRecord) : Bool :=
  decide (r.rawBase < Config.addressSpace) && r.rawBase % 4096 == 0 && decide (r.rawLimit ≤ 1048575)
    && (match r.writer with | .any => true | .only n => decide (n ≤ 7))
    && decide (r.prescan ≤ 255) && decide (8 ≤ r.W) && decide (r.W ≤ 8192) && decide (r.ov ≤ 64)
    && decide (1 ≤ r.H) && decide (r.H ≤ 8192)
    && (r.K == 1 || r.K == 2 || r.K == 4 || r.K == 8)
    && decide (1 ≤ r.S) && decide (r.S ≤ 65535) && decide (1 ≤ r.G) && decide (r.G ≤ 65535)
    && decide (r.biasSeed ≤ 1048560) && decide (r.k ≤ 7)
    && (match r.flatBase with | none => true | some a => decide (a < Config.addressSpace) && a % 32 == 0)
    && decide (r.X0 ≤ 16383) && decide (r.Y0 ≤ 16383) && decide (r.orientation ≤ 7)

/-- A valid record passes every check of R3 but the overlap check of R4. -/
def SegRecord.passesR3 (r : SegRecord) : Bool :=
  r.fieldsInRange
    && (match r.granularity with | .byte => (r.rawLimit + 1) % 4 == 0 | .page => true)
    && r.W % r.K == 0
    && decide (2 * r.extent ≤ r.windowSize)
    && decide (r.rawBase + r.windowSize ≤ Config.addressSpace)
    && (match r.flatBase with | none => true | some a => decide (a + 2 * r.W * r.H ≤ Config.addressSpace))

/-! ### From address to position (R14, R15) -/

/-- Number of pixels a raw write of the size carries (R14). A BYTE write carries none. -/
def pixelsIn : Size → Nat
  | .byte => 0
  | .half => 1
  | .word => 2
  | .line => 16

/-- The raw value of the `j`-th pixel of a write's data, in ascending address order (R14). -/
def rawAt (data : Line) (j : Nat) : Nat := bytesAt data.toNat (2 * j) 2

/-- The position class of pixel index `p` (R15). -/
def classOf (r : SegRecord) (p : Nat) : PixelClass :=
  if r.extent ≤ p then .overrun
  else if p % r.rowlen < r.prescan then .prescan
  else if r.prescan + r.W ≤ p % r.rowlen then .overscan (p / r.rowlen)
  else .data (p / r.rowlen) (p % r.rowlen - r.prescan)

/-- The pixel index of the first pixel of a write at an address (R14). -/
def firstPixel (r : SegRecord) (addr : Nat) : Nat := (addr - r.rawBase) / 2

/-- The pixels of a raw write: index and raw value of each, in ascending address order (R14). -/
def pixelsOf (r : SegRecord) (addr : Nat) (size : Size) (data : Line) : List (Nat × Nat) :=
  (List.range (pixelsIn size)).map fun j => (firstPixel r addr + j, rawAt data j)

/-! ### Kernel shuffle, orientation, mosaic position (R16 to R18) -/

/-- The true column of data column `d` (R16); a free value when K is 0, which no checked record has. -/
def trueColumn (K d : Nat) : Nat :=
  if K = 0 then Config.columnWithoutKernel d
  else if (d / K) % 2 = 0 then d / K * K + d % K
  else d / K * K + (K - 1 - d % K)

/-- The oriented position of `(u, v)` (R17); a free value for a code above 7, which no checked record has. -/
def orient (code W H u v : Nat) : Int × Int :=
  match code with
  | 0 => (u, v)
  | 1 => ((W : Int) - 1 - u, v)
  | 2 => (u, (H : Int) - 1 - v)
  | 3 => ((W : Int) - 1 - u, (H : Int) - 1 - v)
  | 4 => (v, u)
  | 5 => ((H : Int) - 1 - v, u)
  | 6 => (v, (W : Int) - 1 - u)
  | 7 => ((H : Int) - 1 - v, (W : Int) - 1 - u)
  | _ => Config.placeWithoutOrientation code u v

/-- The mosaic position of data pixel (row, col) under a dither (R18). -/
def mosaicOf (r : SegRecord) (dx dy : Int) (row col : Nat) : Int × Int :=
  let p := orient r.orientation r.W r.H (trueColumn r.K col) row
  (r.X0 + dx + p.1, r.Y0 + dy + p.2)

/-- The position lies within a stack's width and height (R18). -/
def onFrame (k : StackRecord) (p : Int × Int) : Bool :=
  decide (0 ≤ p.1 ∧ p.1 < k.width ∧ 0 ≤ p.2 ∧ p.2 < k.height)

/-! ### Cell and flat addresses (R19, R20) -/

/-- The cell address of an on-frame position (R19). -/
def cellAddress (k : StackRecord) (x y : Nat) : Nat := k.cellBase + 8 * (y * k.width + x)

/-- The lane of a cell address within its line (R19). -/
def laneIndex (a : Nat) : Fin 4 := Fin.ofNat 4 (a % 32 / 8)

/-- The flat value address of data pixel (row, col) (R20). -/
def flatAddress (flatBase : Nat) (r : SegRecord) (row col : Nat) : Nat := flatBase + 2 * (row * r.W + col)

/-! ### Raw windows (R12) -/

/-- A byte of the transfer lies in the raw window of this valid record (R130). -/
def SegRecord.touchedBy (r : SegRecord) (t : Transfer) : Bool := r.valid && t.touches r.rawBase r.windowSize

/-- The segment whose raw window the transfer touches. Windows of a plan that passed pass 1 are disjoint (R4), so there is
at most one. Pass 2 does not check again (R7): where memory gave it other bytes and two windows installed overlap, the spec
names no segment, and the model takes the lowest index (DESIGN CHOICE, log entry 21). -/
def State.windowOf (s : State) (t : Transfer) : Option SegIdx :=
  (List.finRange 128).find? fun i => s.segs[i].touchedBy t

/-! ### Stack regions (R98) -/

/-- Size of the cell region (R98). -/
def StackRecord.cellSize (k : StackRecord) : Nat := k.width * k.height * 8

/-- Size of the output region (R98). -/
def StackRecord.outputSize (k : StackRecord) : Nat := k.width * k.height * 4

/-- The row of an address in the cell region (R98). -/
def StackRecord.cellRow (k : StackRecord) (a : Nat) : Nat := (a - k.cellBase) / (k.width * 8)

/-- The row of an address in the output region (R98). -/
def StackRecord.outputRow (k : StackRecord) (a : Nat) : Nat := (a - k.outputBase) / (k.width * 4)

/-- Address of cell line `m` of cell row `y` (R98). -/
def StackRecord.cellLine (k : StackRecord) (y m : Nat) : Nat := k.cellBase + y * k.width * 8 + 32 * m

/-- Address of output line `j` of output row `y` (R98). -/
def StackRecord.outputLine (k : StackRecord) (y j : Nat) : Nat := k.outputBase + y * k.width * 4 + 32 * j

/-- The stack is not EMPTY and the region given overlaps its cell or output region (R4, R102). -/
def StackRecord.regionsOverlap (k : StackRecord) (base size : Nat) : Bool :=
  k.state != .empty && (overlaps k.cellBase k.cellSize base size || overlaps k.outputBase k.outputSize base size)

/-- The slot of a stack that is not EMPTY and whose cell region the transfer touches (R130). -/
def State.cellRegionOf (s : State) (t : Transfer) : Option StackSlot :=
  [StackSlot.zero, .one].find? fun k =>
    (s.stack k).state != .empty && t.touches (s.stack k).cellBase (s.stack k).cellSize

/-- The slot of a stack that is not EMPTY and whose output region the transfer touches (R130). -/
def State.outputRegionOf (s : State) (t : Transfer) : Option StackSlot :=
  [StackSlot.zero, .one].find? fun k =>
    (s.stack k).state != .empty && t.touches (s.stack k).outputBase (s.stack k).outputSize

end Sys2Proof.Machine
end

