-- ==== Sys2Proof/Machine/Exposures.lean ====
section
/-! DEFINITION. The exposure queue and the segment progress unit: states and outcomes of exposures, tallies, retirement,
the next assignment of a segment, closing and stall expiry, and the millisecond of the reference clock
(R21 to R46). -/

namespace Sys2Proof.Machine

/-- The queued exposure of an id (R22: no two have the same). -/
def State.exposure? (s : State) (id : Nat) : Option Exposure := s.queue.find? fun e => e.id == id

/-- Change the queued exposure of an id. -/
def State.updateExposure (id : Nat) (f : Exposure → Exposure) (s : State) : State :=
  { s with queue := s.queue.map fun e => if e.id = id then f e else e }

/-! ### Retirement (R31, R32) -/

/-- The retired record of an exposure (R32). -/
def retiredOf (e : Exposure) : Retired :=
  { id := e.id, stackSlot := e.stackSlot, dx := e.dx, dy := e.dy, outcome := e.outcome, cutReason := e.cutReason,
    tallies := e.tallies }

/-- The reference count of a stack falls by 1 (R31 step 3, R100). -/
def State.dropReference (k : StackSlot) (s : State) : State :=
  s.setStack k { s.stack k with refCount := (s.stack k).refCount - 1 }

/-- The flag a retirement sets (R31 step 4). -/
def retirementFlag (e : Exposure) : Flag :=
  match e.outcome with
  | some o => if o.cut then .exposureCut else .exposureDone
  | none => .exposureDone

/-- One retirement, the record having left the queue (R31, R32). It requests a rewrite (step 5): a second retirement of a
step requests a second time (2.7, after the worked example). -/
def State.retireOne (e : Exposure) (s : State) : State :=
  ((({ s with
    retired := (retiredOf e :: s.retired).take Config.retiredCapacity
    retirements := s.retirements + 1 }).dropReference e.stackSlot).setFlag (retirementFlag e)).request

/-- Retire the head while it is DONE, along the queue given (R31). -/
def State.retireAlong : List Exposure → State → State
  | [], s => { s with queue := [] }
  | e :: rest, s => if e.state = .done then State.retireAlong rest (s.retireOne e) else { s with queue := e :: rest }

/-- Retire every DONE exposure at the head of the queue (R31). -/
def State.retireHeads (s : State) : State := State.retireAlong s.queue s

/-! ### States and outcome (R25, R26) -/

/-- The exposure as it becomes DONE (R26). -/
def Exposure.toDone (e : Exposure) : Exposure :=
  { e with
    state := .done
    outcome := e.outcome.map fun o => { o with degraded := decide (0 < e.tallies.lost ∨ 0 < e.tallies.degraded) } }

/-- The exposure as it enters DRAINING (R26, R28). -/
def Exposure.toDraining (e : Exposure) : Exposure :=
  { e with state := .draining, outcome := some { cut := e.cutReason.isSome, degraded := false }, timer := none }

/-- The test for DONE (R25), and retirement (R31). -/
def State.testDone (id : Nat) (s : State) : State :=
  match s.exposure? id with
  | none => s
  | some e =>
    if e.state = .draining ∧ e.outstanding = 0 then ((s.updateExposure id Exposure.toDone).request).retireHeads else s

/-- The test for DRAINING (R25), and then the test for DONE. -/
def State.testDraining (id : Nat) (s : State) : State :=
  match s.exposure? id with
  | none => s
  | some e =>
    if (e.state = .queued ∨ e.state = .reading) ∧ e.ended = e.segSet then
      ((s.updateExposure id Exposure.toDraining).request).testDone id
    else s

/-- Segments join an exposure's ended set; a reason is kept if none was set (R26). -/
def Exposure.join (segments : BitVec 128) (reason : Option CutReason) (e : Exposure) : Exposure :=
  { e with ended := e.ended ||| segments, cutReason := e.cutReason <|> reason }

/-- Segments join an exposure's ended set, and the test for DRAINING is made (R25, R26). -/
def State.endSegments (id : Nat) (segments : BitVec 128) (reason : Option CutReason) (s : State) : State :=
  (s.updateExposure id (Exposure.join segments reason)).testDraining id

/-- The mask of one segment. -/
def segMask (i : SegIdx) : BitVec 128 := 1#128 <<< i.1

/-! ### Tallies (R30) -/

/-- Count one pixel of a fate (R30). -/
def Tallies.count (t : Tallies) : Fate → Tallies
  | .offFrame => { t with offFrame := t.offFrame + 1 }
  | .masked => { t with masked := t.masked + 1 }
  | .saturated => { t with saturated := t.saturated + 1 }
  | .placed false => { t with placed := t.placed + 1 }
  | .placed true => { t with placed := t.placed + 1, degraded := t.degraded + 1 }
  | .overflow => { t with overflow := t.overflow + 1 }
  | .lost => { t with lost := t.lost + 1 }

/-- The pixels tallied to one of the six fates (R30). -/
def Tallies.decided (t : Tallies) : Nat := t.offFrame + t.masked + t.saturated + t.placed + t.overflow + t.lost

/-- A pixel's fate is reported: one tally rises and the outstanding count falls (R30). An exposure with nothing
outstanding has no pixel left to report (log entry 7). -/
def Exposure.report (f : Fate) (e : Exposure) : Exposure :=
  if e.outstanding = 0 then e else { e with tallies := e.tallies.count f, outstanding := e.outstanding - 1 }

/-- A tally report to the exposure queue (R94). -/
def State.reportFate (id : Nat) (f : Fate) (s : State) : State := s.updateExposure id (Exposure.report f)

/-! ### The progress unit (R33 to R41) -/

/-- The next assignment of a segment: the oldest exposure that names it and has not ended it (R39). -/
def nextAssignment (i : SegIdx) (queue : List Exposure) : Option Nat :=
  (queue.find? fun e => e.segSet.getLsbD i.1 && !e.ended.getLsbD i.1).map (·.id)

/-- A progress record moved to an assignment, or IDLE without one (R39). B and the accumulator stay. -/
def Progress.assign (p : Progress) (next : Option Nat) : Progress :=
  { p with
    state := match next with
      | some id => .armed id
      | none => .idle
    count := 0 }

/-- A progress record moves to its next assignment (R39). -/
def State.moveToNext (i : SegIdx) (s : State) : State :=
  s.setProgress i (s.progress[i].assign (nextAssignment i s.queue))

/-- An orphan pixel (R41). -/
def State.orphan (s : State) : State := (s.setFlag .orphanPixels).bump .orphanPixels

/-- The exposure at the first pixel taken for it: QUEUED becomes READING (R25). -/
def State.beginReading (id : Nat) (s : State) : State :=
  match s.exposure? id with
  | none => s
  | some e =>
    if e.state = .queued then (s.updateExposure id fun e => { e with state := .reading }).request else s

/-- The exposure as one pixel is taken for it (R28, R30): the stall timer is armed or restarted, and a data pixel
raises the taken tally and the outstanding count. -/
def Exposure.takeOne (cls : PixelClass) (e : Exposure) : Exposure :=
  let e := if e.state = .reading ∧ e.stallTimeout ≠ 0 then { e with timer := some e.stallTimeout } else e
  match cls with
  | .data _ _ =>
    { e with tallies := { e.tallies with taken := e.tallies.taken + 1 }, outstanding := e.outstanding + 1 }
  | _ => e

/-- The position count of a segment rises by one (R37). -/
def State.countPosition (i : SegIdx) (s : State) : State :=
  s.setProgress i { s.progress[i] with count := s.progress[i].count + 1 }

/-- A pixel is taken for an exposure (R37); when the position count reaches the extent, the frame is complete. -/
def State.takePixel (i : SegIdx) (id : Nat) (cls : PixelClass) (s : State) : State :=
  let s := ((s.beginReading id).updateExposure id (Exposure.takeOne cls)).countPosition i
  if s.segs[i].extent ≤ s.progress[i].count then (s.endSegments id (segMask i) none).moveToNext i else s

/-- A frame start for an exposure, before its pixel is taken (R36, R56). -/
def State.startFrame (i : SegIdx) (id : Nat) (s : State) : State :=
  s.setProgress i { s.progress[i] with state := .reading id, count := 0, acc := none }

/-- The current frame ends as a short frame (R38 steps 1 to 3). -/
def State.shortFrame (i : SegIdx) (id : Nat) (s : State) : State :=
  ((s.endSegments id (segMask i) (some .short)).bump .shortFrames).moveToNext i

/-- Pixel index 0 offered to a record that is not READING: it starts the frame of an ARMED record, or is an orphan
(R35, R36). The second component is the exposure the pixel was taken for. -/
def State.offerFirst (i : SegIdx) (cls : PixelClass) (s : State) : State × Option Nat :=
  match s.progress[i].state with
  | .armed id => ((s.startFrame i id).takePixel i id cls, some id)
  | _ => (s.orphan, none)

/-- A pixel inside the extent is offered to the progress record (R35 to R38). -/
def State.offer (i : SegIdx) (p : Nat) (cls : PixelClass) (s : State) : State × Option Nat :=
  match s.progress[i].state with
  | .idle => (s.orphan, none)
  | .armed _ => if p = 0 then s.offerFirst i cls else (s.orphan, none)
  | .reading id => if p = 0 then (s.shortFrame i id).offerFirst i cls else (s.takePixel i id cls, some id)

/-! ### Close and stall expiry (R27, R29, R40) -/

/-- A progress record whose current exposure is the one given. -/
def ProgressState.isOn (p : ProgressState) (id : Nat) : Bool :=
  match p with
  | .idle => false
  | .armed x | .reading x => x == id

/-- Each progress record on an exposure moves to its next assignment (R40). -/
def State.moveAllFrom (id : Nat) (s : State) : State :=
  { s with
    progress := Vector.ofFn fun i =>
      if s.progress[i].state.isOn id then s.progress[i].assign (nextAssignment i s.queue) else s.progress[i] }

/-- An exposure ends as by a close: every unended segment joins its ended set with the reason, its progress records move
on, and it enters DRAINING (R27, R29, R40). The records move before an exposure at the head retires; an ended exposure
is no assignment either way. -/
def State.cutExposure (id : Nat) (reason : CutReason) (s : State) : State :=
  match s.exposure? id with
  | none => s
  | some e => ((s.updateExposure id (Exposure.join e.segSet (some reason))).moveAllFrom id).testDraining id

/-- Number of members of a segment set. -/
def memberCount (m : BitVec 128) : Nat := ((List.range 128).filter fun i => m.getLsbD i).length

/-- The exposure's stall timer has run out: it is READING and the expiry is due (R28, R29). -/
def Exposure.expiryDue (e : Exposure) : Bool := e.state == .reading && e.timer == some 0

/-- STALL_TIMER_EXPIRY (R29). An expiry that is not due does not take place (R43, R44). -/
def execStallTimerExpiry (id : BitVec 16) (s : State) : Host.Outcome State Fault Refusal :=
  act (fun s =>
    match s.exposure? id.toNat with
    | some e => if e.expiryDue then s.cutExposure id.toNat .stalled else s
    | none => s) s

/-- An exposure after one more whole millisecond (R28): a present timer counts down to 0, where its expiry is due. -/
def Exposure.tick (e : Exposure) : Exposure := { e with timer := e.timer.map fun n => n - 1 }

/-- What the part does when no command waits (DESIGN CHOICE, log entry 3): it takes the oldest exposure's expiry that is due,
and with none due a millisecond of the reference clock passes. An expiry due is so taken before its timer's stall timeout
is a whole millisecond past (R28). -/
def State.idle (s : State) : State :=
  if s.resetAsserted then s
  else match s.queue.find? Exposure.expiryDue with
    | some e => (s.cutExposure e.id .stalled).settleRequests
    | none => { s with queue := s.queue.map Exposure.tick }

end Sys2Proof.Machine
end

