-- ==== Sys2Proof/Machine/Bias.lean ====
section
/-! DEFINITION. The overscan bias estimator (R47 to R58). -/

namespace Sys2Proof.Machine

/-- The accumulator after one pixel taken while empty, or on a fresh row (R51, R52). -/
def Accumulator.start (row raw : Nat) : Accumulator := { row := row, sum := raw, n := 1, max := raw }

/-- The accumulator after one more pixel of its row (R51). -/
def Accumulator.add (raw : Nat) (a : Accumulator) : Accumulator :=
  { a with sum := a.sum + raw, n := a.n + 1, max := Max.max a.max raw }

/-- The mean of a complete row in sixteenths (R53): with 4 or more columns one instance of the maximum is set aside. -/
def rowMean (ov : Nat) (a : Accumulator) : Int :=
  if 4 ≤ ov then roundUp (16 * ((a.sum : Int) - a.max)) (a.n - 1) else roundUp (16 * (a.sum : Int)) a.n

/-- The step of the estimate for a difference `x` under smoothing shift `k` (R54); a free value for a shift above 7, which
no checked record has (log entry 9). -/
def biasStep (k : Nat) (x : Int) : Int :=
  if k = 0 then x else if k ≤ 7 then (x + 2 ^ (k - 1)) / 2 ^ k else Config.stepBeyondShift k x

/-- The estimate after a complete row (R53, R54). -/
def newBias (ov k B : Nat) (a : Accumulator) : Nat := ((B : Int) + biasStep k (rowMean ov a - B)).toNat

/-- The progress record with its accumulator holding `a`, reduced if the row is complete (R51, R53, R54). -/
def Progress.withRow (r : SegRecord) (a : Accumulator) (p : Progress) : Progress :=
  if r.ov ≤ a.n then { p with B := newBias r.ov r.k p.B a, acc := none } else { p with acc := some a }

/-- A partial row is discarded (R52). -/
def State.loseRow (s : State) : State := (s.setFlag .biasRowLost).bump .biasRowsLost

/-- An overscan pixel of a row is passed to the segment's accumulator (R50 to R52). -/
def State.gather (i : SegIdx) (row raw : Nat) (s : State) : State :=
  match s.progress[i].acc with
  | none => s.setProgress i (s.progress[i].withRow s.segs[i] (Accumulator.start row raw))
  | some a =>
    if a.row = row then s.setProgress i (s.progress[i].withRow s.segs[i] (a.add raw))
    else s.loseRow.setProgress i (s.progress[i].withRow s.segs[i] (Accumulator.start row raw))

end Sys2Proof.Machine
end

