-- ==== Sys2Proof/Machine/Intake.lean ====
section
/-! DEFINITION. The intake buffer: the take of a raw write (R133, R34, R50, R55, R59, R62), the keep-raw copies and flat
reads it requests (R61, R63), the leaving of slots (R60), and the terminations of copies and flat reads
(R64, R65, R154). -/

namespace Sys2Proof.Machine

/-! ### The visit of the progress unit over a write's pixels (R34) -/

/-- One pixel of a raw write: it is offered to the progress record unless it is overrun (R34), and an overscan pixel is
passed to the accumulator (R50). The result is the state, the slot's pixel, and the exposure it was taken for. -/
def State.visitPixel (i : SegIdx) (p raw : Nat) (s : State) : State × SlotPixel × Option Nat :=
  match classOf s.segs[i] p with
  | .overrun => (s.orphan, { raw := raw, cls := .overrun, taken := false }, none)
  | .overscan row =>
    let o := s.offer i p (.overscan row)
    (o.1.gather i row raw, { raw := raw, cls := .overscan row, taken := o.2.isSome }, o.2)
  | cls =>
    let o := s.offer i p cls
    (o.1, { raw := raw, cls := cls, taken := o.2.isSome }, o.2)

/-- The visit over a write's pixels, in ascending address order (R34). -/
def State.visitPixels (i : SegIdx) : List (Nat × Nat) → State → State × List SlotPixel × Option Nat
  | [], s => (s, [], none)
  | (p, raw) :: rest, s =>
    let v := s.visitPixel i p raw
    let w := v.1.visitPixels i rest
    (w.1, v.2.1 :: w.2.1, v.2.2 <|> w.2.2)

/-! ### Flat lines (R62) -/

/-- The flat line a slot's pixel needs, if it needs one (R62): a data pixel taken for the exposure, on-frame, of a
segment with a flat plane. -/
def neededLine (r : SegRecord) (e : Exposure) (k : StackRecord) (px : SlotPixel) : Option Nat :=
  match px.cls, px.taken, r.flatBase with
  | .data row col, true, some fb =>
    if onFrame k (mosaicOf r e.dx e.dy row col) then some (lineOf (flatAddress fb r row col)) else none
  | _, _, _ => none

/-- The distinct flat lines a slot's pixels need, each PENDING (R62). Flat addresses rise with pixel order, so the lines
stand in ascending order. -/
def flatLines (r : SegRecord) (e : Exposure) (k : StackRecord) (pixels : List SlotPixel) : List FlatLine :=
  ((pixels.filterMap (neededLine r e k)).foldl (fun ls a => if a ∈ ls then ls else ls ++ [a]) []).map
    fun a => { addr := a, status := .pending }

/-! ### Slots moving on (R60, R66) -/

/-- A data pixel taken for the exposure: one the calibration unit decides (R66). -/
def SlotPixel.toDecide (px : SlotPixel) : Bool :=
  match px.cls with
  | .data _ _ => px.taken
  | _ => false

/-- The slot with its cursor past every pixel that is passed over at once (R66). -/
def IntakeSlot.skip (sl : IntakeSlot) : IntakeSlot :=
  { sl with cursor := sl.cursor + ((sl.pixels.drop sl.cursor).takeWhile fun px => !px.toDecide).length }

/-- The cursor has passed the slot's last pixel (R60). -/
def IntakeSlot.decided (sl : IntakeSlot) : Bool := decide (sl.pixels.length ≤ sl.cursor)

/-- The three conditions of leaving (R60). -/
def IntakeSlot.mayLeave (sl : IntakeSlot) : Bool :=
  sl.decided && sl.copy != .waiting && sl.flats.all fun f => f.status != .pending

/-- The calibration unit's cursor walks in take order, one slot at a time, up to a pixel to decide (R66). -/
def walkSlots : List IntakeSlot → List IntakeSlot
  | [] => []
  | sl :: rest => if sl.skip.decided then sl.skip :: walkSlots rest else sl.skip :: rest

/-- The cursor walks on, and the slots at the head that may leave leave the buffer (R60, R66). A slot whose three
conditions hold waits for the slots before it: R60 says both that it leaves once they hold and that slots leave in the
order they were taken, which part only for a decided slot without a copy behind one whose copy still waits. The model
keeps the order (DEDUCED, log entry 20). -/
def State.settleIntake (s : State) : State :=
  { s with intake := (walkSlots s.intake).dropWhile IntakeSlot.mayLeave }

/-! ### The take of a raw write (R133) -/

/-- The slot of a raw write, from the state after its visit, with B as it stood before it (R13, R55, R59, R61, R62). -/
def slotOfWrite (i : SegIdx) (t : Transfer) (r : SegRecord) (B tag : Nat) (pixels : List SlotPixel)
    (exposure : Option Nat) (after : State) : IntakeSlot :=
  { tag := tag, seg := i, addr := t.start, size := t.size, pixels := pixels, record := r, B := B, exposure := exposure
    flats := match exposure.bind after.exposure? with
      | some e => flatLines r e (after.stack e.stackSlot) pixels
      | none => []
    copy := if r.keepRaw then .waiting else .none
    cursor := 0 }

/-- A raw write of segment `i` is taken into intake, and its DONE is given at once (R133). -/
def State.takeRaw (i : SegIdx) (t : Transfer) (s : State) : State :=
  let v := s.visitPixels i (pixelsOf s.segs[i] t.start t.size t.data)
  let slot := slotOfWrite i t s.segs[i] s.progress[i].B s.nextSlot v.2.1 v.2.2 v.1
  (({ v.1 with intake := v.1.intake ++ [slot], nextSlot := s.nextSlot + 1 }).answer t (.done 0)).settleIntake

/-! ### Keep-raw copies (R61, R149, R153, R154) -/

/-- The copy of a slot: its whole raw transfer, at its own address and size (R61). -/
def copyTransfer (sl : IntakeSlot) : MemTransfer :=
  ownWrite sl.addr sl.size (BitVec.ofNat 256 (sl.pixels.foldr (fun px n => px.raw % 65536 + 65536 * n) 0)) none

/-- The slot whose copy is requested: the oldest WAITING one (R61). -/
def State.copySlot (s : State) : Option IntakeSlot := s.intake.find? fun sl => sl.copy == .waiting

/-- The transfer in flight is a keep-raw copy that overlaps the bytes given. -/
def InFlight.copyOver (a la : Nat) (f : InFlight) : Bool :=
  match f.owner with
  | .copy _ => overlaps f.transfer.addr f.transfer.size.bytes a la
  | _ => false

/-- The numbers of the unwritten copies that overlap the bytes given: those WAITING in intake and those in flight
(R153). -/
def State.unwrittenOver (s : State) (a la : Nat) : List Nat :=
  ((s.intake.filter fun sl => sl.copy == .waiting && overlaps sl.addr sl.size.bytes a la).map (·.tag))
    ++ ((s.inFlight.filter (InFlight.copyOver a la)).filterMap fun f =>
      match f.owner with
      | .copy slot => some slot
      | _ => none)

/-- The copy of a slot is unwritten: WAITING, or in flight (R153). -/
def State.copyUnwritten (s : State) (slot : Nat) : Bool :=
  (s.intake.any fun sl => sl.tag == slot && sl.copy == .waiting) || s.inFlightFor (.copy slot)

/-- KEEP_RAW_COPY_DONE (R154): a FAULT sets MEMORY_FAULT and raises the memory-fault counter, unless a RESTART let the
copy go (R75). -/
def execKeepRawCopyDone (slot : Nat) (result : Termination) (s : State) : Host.Outcome State Fault Refusal :=
  act (fun s =>
    match s.findInFlight fun f => f.owner == .copy slot with
    | none => s
    | some f =>
      let s := s.land fun f => f.owner == .copy slot
      match f.live, result with
      | true, .fault => s.memoryFault
      | _, _ => s) s

/-! ### Flat reads (R63 to R65) -/

/-- The slot and address of the flat line the fetcher presents: the first PENDING line, in take order, that is not in
flight (R63). -/
def State.flatRequest (s : State) : Option (Nat × Nat) :=
  (s.intake.flatMap fun sl => (sl.flats.filter fun f =>
    f.status == .pending && !s.inFlight.any fun x => x.owner == .flat sl.tag && x.transfer.addr == f.addr).map
      fun f => (sl.tag, f.addr)).head?

/-- A slot with the status of one flat line replaced. -/
def IntakeSlot.setFlat (addr : Nat) (st : FlatStatus) (sl : IntakeSlot) : IntakeSlot :=
  { sl with flats := sl.flats.map fun f => if f.addr = addr then { f with status := st } else f }

/-- The slot of a number with a change. -/
def State.updateSlot (slot : Nat) (f : IntakeSlot → IntakeSlot) (s : State) : State :=
  { s with intake := s.intake.map fun sl => if sl.tag = slot then f sl else sl }

/-- FLAT_READ_DONE (R64, R65): DONE stores the line, FAULT marks it FAULTED and counts a memory fault. A read that a
RESTART let go has no effect (R75). -/
def execFlatReadDone (slot addr : Nat) (result : Termination) (s : State) : Host.Outcome State Fault Refusal :=
  act (fun s =>
    match s.findInFlight fun f => f.owner == .flat slot && f.transfer.addr == addr with
    | none => s
    | some f =>
      let s := s.land fun f => f.owner == .flat slot && f.transfer.addr == addr
      match f.live, result with
      | false, _ => s
      | true, .done line => s.updateSlot slot (IntakeSlot.setFlat addr (.read line))
      | true, .fault => (s.updateSlot slot (IntakeSlot.setFlat addr .faulted)).memoryFault) s

end Sys2Proof.Machine
end

