-- ==== Sys2Proof/Machine/Watch.lean ====
section
/-! DEFINITION. The watch unit (R119 to R127). SET_WATCH's checks and effect stand here, its command in
Machine/Engine.lean. -/

namespace Sys2Proof.Machine

/-- A watch coordinate covers a mosaic coordinate: an ignore code covers all (R120). -/
def coordinateMatches (w c : Nat) : Bool := decide (0xC000 ≤ w ∧ w ≤ 0xFFFF) || w == c

/-- An ADD qualifies by its value, a SAT_ONLY always (R123). -/
def ContribKind.qualifies (k : ContribKind) (threshold : Int) : Bool :=
  match k with
  | .add V _ => decide (threshold ≤ V)
  | .satOnly => true

/-- The contribution matches the entry (R123). -/
def WatchEntry.matches (w : WatchEntry) (c : Contribution) : Bool :=
  w.enabled && c.stackSlot == w.stackSlot && coordinateMatches w.x c.x && coordinateMatches w.y c.y
    && c.kind.qualifies w.threshold

/-- The hit record of a contribution (R119). -/
def hitOf (c : Contribution) : HitRecord :=
  { exposure := c.exposure, x := c.x, y := c.y
    value := match c.kind with
      | .add V _ => .add V
      | .satOnly => .sat }

/-- The entry after a match: the count rises to at most 65535, and the first hit is recorded (R124). -/
def WatchEntry.record (c : Contribution) (w : WatchEntry) : WatchEntry :=
  { w with hitCount := min 65535 (w.hitCount + 1), hit := w.hit <|> some (hitOf c) }

/-- The comparison of a contribution with the four entries at its formation (R123, R124). -/
def State.watchCompare (c : Contribution) (s : State) : State :=
  if s.watch.toList.any (·.matches c) then
    ({ s with watch := Vector.ofFn fun i => if s.watch[i].matches c then s.watch[i].record c else s.watch[i] }.setFlag
      .watchHit).request
  else s

/-- An entry without its hits (R125). -/
def WatchEntry.clearHits (w : WatchEntry) : WatchEntry := { w with hit := none, hitCount := 0 }

/-- Clearing WATCH_HIT empties every hit record and hit count (R125). -/
def State.clearWatchHits (s : State) : State := { s with watch := Vector.ofFn fun i => s.watch[i].clearHits }

/-- The value is neither a coordinate nor an ignore code (R120, R121). -/
def badCoordinate (v : Nat) : Bool := decide (16384 ≤ v ∧ v ≤ 0xBFFF)

/-- The first check of R121 that fails, with its result and detail. -/
def watchCheck (arg : Nat) (p : WatchParams) : Option (ResultCode × Nat) :=
  if 3 < arg then some (.badParameter, 268)
  else if (slotOf p.slot).isNone then some (.badParameter, 257)
  else if badCoordinate p.x then some (.badParameter, 269)
  else if badCoordinate p.y then some (.badParameter, 270)
  else none

/-- The entry SET_WATCH writes (R122). -/
def watchEntryOf (p : WatchParams) : WatchEntry :=
  { enabled := p.enabled, stackSlot := (slotOf p.slot).getD .zero, x := p.x, y := p.y, threshold := p.threshold
    hit := none, hitCount := 0 }

/-- SET_WATCH replaces entry `arg` (R122). -/
def State.replaceWatch (arg : Nat) (p : WatchParams) (s : State) : State :=
  { s with watch := s.watch.set (Fin.ofNat 4 arg).1 (watchEntryOf p) (Fin.ofNat 4 arg).2 }

end Sys2Proof.Machine
end

