-- ==== Sys2Proof/Machine/Placement.lean ====
section
/-! DEFINITION. Cells, the placement queue and the placement engine (R76 to R96). -/

namespace Sys2Proof.Machine

/-! ### A contribution at its cell (R77 to R81) -/

/-- The cell after an ADD counted in it (R77, R79). -/
def Cell.addValue (V : Int) (degraded : Bool) (c : Cell) : Cell :=
  { sum := signedOf 32 (unsignedOf 32 (c.sum + V)), peak := if c.count = 0 then V else max c.peak V
    count := c.count + 1, sat := c.sat, deg := c.deg || degraded }

/-- What a contribution does to its cell, and the fate of its pixel (R79 to R81). -/
def applyTo (k : ContribKind) (c : Cell) : Cell × Fate :=
  match k with
  | .satOnly => ({ c with sat := true }, .saturated)
  | .add V d => if c.count < Config.depthCap then (c.addValue V d, .placed d) else (c, .overflow)

/-- One lane of a line image (R87): the image with the occupied lane applied, and the fate kept for its exposure. -/
def applyLane (lane : Option Contribution) (j : Fin 4) (image : Line) (fates : List (Nat × Fate)) :
    Line × List (Nat × Fate) :=
  match lane with
  | none => (image, fates)
  | some c =>
    let r := applyTo c.kind (cellOf (laneOf image j))
    (setLane image j (cellBytes r.1), fates ++ [(c.exposure, r.2)])

/-- Every occupied lane applied to the line read (R87). -/
def applyLanes (lanes : Vector (Option Contribution) 4) (image : Line) : Line × List (Nat × Fate) :=
  (List.finRange 4).foldl (fun r j => applyLane lanes[j] j r.1 r.2) (image, [])

/-- The lane mask naming the occupied lanes (R87). -/
def laneMask (lanes : Vector (Option Contribution) 4) : BitVec 4 :=
  BitVec.ofNat 4 ((if lanes[0].isSome then 1 else 0) + (if lanes[1].isSome then 2 else 0)
    + (if lanes[2].isSome then 4 else 0) + (if lanes[3].isSome then 8 else 0))

/-! ### The queue (R82, R83) -/

/-- The entry of a number. -/
def State.entry? (s : State) (tag : Nat) : Option Entry := s.entries.find? fun e => e.tag == tag

/-- Change the entry of a number. -/
def State.updateEntry (tag : Nat) (f : Entry → Entry) (s : State) : State :=
  { s with entries := s.entries.map fun e => if e.tag = tag then f e else e }

/-- An entry leaves the queue (R82). -/
def State.dropEntry (tag : Nat) (s : State) : State := { s with entries := s.entries.filter fun e => e.tag != tag }

/-- The newest WAITING entry for a line (R83). -/
def State.newestWaiting (s : State) (line : Nat) : Option Entry :=
  (s.entries.filter fun e => e.state == .waiting && e.line == line).getLast?

/-- A new entry at the end of the formation order, if there is room (R83 steps 2 and 3). -/
def State.newEntry (line : Nat) (j : Fin 4) (c : Contribution) (s : State) : Option State :=
  if s.entries.length < Config.placementCapacity then
    some { s with
      entries := s.entries ++
        [{ tag := s.nextEntry, line := line, lanes := (Vector.replicate 4 none).set j.1 (some c) j.2, state := .waiting }]
      nextEntry := s.nextEntry + 1 }
  else none

/-- The placement queue accepts a contribution for a line and lane, or refuses it (R83). -/
def State.acceptContribution (line : Nat) (j : Fin 4) (c : Contribution) (s : State) : Option State :=
  match s.newestWaiting line with
  | some e =>
    if e.lanes[j].isNone then some (s.updateEntry e.tag fun e => { e with lanes := e.lanes.set j.1 (some c) j.2 })
    else s.newEntry line j c
  | none => s.newEntry line j c

/-- The contribution is formed: accepted by the queue and compared with the watch entries (R73, R123). -/
def State.formContribution (line : Nat) (j : Fin 4) (c : Contribution) (s : State) : Option State :=
  (s.acceptContribution line j c).map fun s => s.watchCompare c

/-! ### The engine (R86) -/

/-- A WRITING entry whose write has not been presented: neither presented nor in flight (R86). -/
def State.writeDue (s : State) (e : Entry) : Bool :=
  (match e.state with | .writing _ _ => true | _ => false)
    && s.placePresented != some e.tag && !s.inFlightFor (.placement e.tag)

/-- An engine with nothing presented presents the oldest write due (R86). -/
def State.presentWrite (s : State) : State :=
  match s.placePresented with
  | some _ => s
  | none =>
    match s.entries.find? s.writeDue with
    | some e => { s with placePresented := some e.tag }
    | none => s

/-- The oldest eligible entry: WAITING, and no older entry names its line (R86). -/
def firstEligible : List Nat → List Entry → Option Entry
  | _, [] => none
  | older, e :: rest =>
    if e.state = .waiting ∧ e.line ∉ older then some e else firstEligible (e.line :: older) rest

/-- The engine starts an entry: it becomes READING and its read is presented (R86). -/
def State.startEntry (tag : Nat) (s : State) : State :=
  { s.updateEntry tag fun e => { e with state := .reading } with placePresented := some tag }

/-- PLACEMENT_ENTRY_START (R86): with nothing presented and no write due, the oldest eligible entry is started. -/
def execPlacementEntryStart (s : State) : Host.Outcome State Fault Refusal :=
  act (fun s =>
    match s.placePresented, s.entries.find? s.writeDue, firstEligible [] s.entries with
    | none, none, some e => s.startEntry e.tag
    | _, _, _ => s) s

/-- The transfer of an entry: the read of its line, or the masked write of its image (R86, R87). -/
def entryTransfer (e : Entry) : Option MemTransfer :=
  match e.state with
  | .waiting => none
  | .reading => some (lineRead e.line)
  | .writing image _ => some (ownWrite e.line .line image (some (laneMask e.lanes)))

/-! ### Terminations (R87 to R90) -/

/-- The exposures of an entry's contributions, one for each occupied lane. -/
def laneExposures (lanes : Vector (Option Contribution) 4) : List Nat :=
  lanes.toList.filterMap fun l => l.map (·.exposure)

/-- The test for DONE of each exposure in a list (R88 to R90, R94). -/
def State.testAll (ids : List Nat) (s : State) : State := ids.foldl (fun s id => s.testDone id) s

/-- One kept fate is reported; an overflow also sets its flag and raises its counter (R88). -/
def State.reportKept (f : Nat × Fate) (s : State) : State :=
  let s := s.reportFate f.1 f.2
  match f.2 with
  | .overflow => (s.setFlag .depthOverflow).bump .depthOverflows
  | _ => s

/-- The write of an entry is complete: the kept fates are reported and the entry leaves (R88). -/
def State.completeEntry (tag : Nat) (fates : List (Nat × Fate)) (s : State) : State :=
  ((fates.foldl (fun s f => s.reportKept f) s).dropEntry tag).testAll (fates.map (·.1))

/-- A fault loses an entry: every contribution of it is tallied lost (R89, R90). -/
def State.loseEntry (e : Entry) (s : State) : State :=
  ((((laneExposures e.lanes).foldl (fun s id => s.reportFate id .lost) s).memoryFault).dropEntry e.tag).testAll
    (laneExposures e.lanes)

/-- The transfer in flight is the read of a placement entry. -/
def InFlight.placementRead (tag : Nat) (f : InFlight) : Bool := f.owner == .placement tag && f.transfer.op == .read

/-- The transfer in flight is the write of a placement entry. -/
def InFlight.placementWrite (tag : Nat) (f : InFlight) : Bool := f.owner == .placement tag && f.transfer.op != .read

/-- PLACEMENT_READ_DONE (R87, R89). A read that a RESTART let go is discarded (R96). -/
def execPlacementReadDone (entry : Nat) (result : Termination) (s : State) : Host.Outcome State Fault Refusal :=
  act (fun s =>
    match s.findInFlight (InFlight.placementRead entry) with
    | none => s
    | some f =>
      let s := s.land (InFlight.placementRead entry)
      match f.live, s.entry? entry, result with
      | true, some e, .done line =>
        let r := applyLanes e.lanes line
        (s.updateEntry entry fun e => { e with state := .writing r.1 r.2 }).presentWrite
      | true, some e, .fault => s.loseEntry e
      | _, _, _ => s) s

/-- The fates an entry keeps while WRITING (R87). -/
def Entry.fates (e : Entry) : List (Nat × Fate) :=
  match e.state with
  | .writing _ fates => fates
  | _ => []

/-- PLACEMENT_WRITE_DONE (R88, R90). A write that a RESTART let go has no effect (R96). -/
def execPlacementWriteDone (entry : Nat) (result : Termination) (s : State) : Host.Outcome State Fault Refusal :=
  act (fun s =>
    match s.findInFlight (InFlight.placementWrite entry) with
    | none => s
    | some f =>
      let s := s.land (InFlight.placementWrite entry)
      match f.live, s.entry? entry, result with
      | true, some e, .done _ => s.completeEntry entry e.fates
      | true, some e, .fault => s.loseEntry e
      | _, _, _ => s) s

end Sys2Proof.Machine
end

