-- ==== Sys2Proof/Machine/Calibration.lean ====
section
/-! DEFINITION. The calibration unit (R64 to R73): the classes of a data pixel, the contribution arithmetic, and the
hand-over to the placement queue. -/

namespace Sys2Proof.Machine

/-! ### Arithmetic (R68 to R71) -/

/-- The debiased value in sixteenths of an ADU (R68). -/
def debiased (R B : Nat) : Int := 16 * (R : Int) - B

/-- The combined factor C (R69). -/
def combinedFactor (G E : Nat) : Int := roundUp (G * E) 1024

/-- The product value P (R70). -/
def productValue (D16 C : Int) (F : Nat) : Int := roundAway (D16 * C * F) (2 ^ 32)

/-- The value V of an ADD contribution (R68 to R71). -/
def contributionValue (R B G E F : Nat) : Int := clampQe (productValue (debiased R B) (combinedFactor G E) F)

/-! ### The flat value (R64, R65) -/

/-- The flat value of a slot's data pixel, with its substitution mark; absent while its line is PENDING (R64 to R66). -/
def flatInput (sl : IntakeSlot) (row col : Nat) : Option (Nat × Bool) :=
  match sl.record.flatBase with
  | none => some (16384, false)
  | some fb =>
    match (sl.flats.find? fun f => f.addr == lineOf (flatAddress fb sl.record row col)).map (·.status) with
    | some (FlatStatus.read line) => some (flatValueAt line (flatAddress fb sl.record row col), false)
    | some FlatStatus.faulted => some (16384, true)
    | _ => none

/-! ### The class of a pixel (R67) -/

/-- What the calibration unit makes of a data pixel (R67); `wait` while its flat line is PENDING (R66). -/
inductive Decision where
  | wait
  | offFrame
  | masked
  | contribution (kind : ContribKind)
deriving DecidableEq, Repr

/-- The decision once the pixel is on-frame and its flat value is known (R67 orders 2 to 4). -/
def classify (sl : IntakeSlot) (E raw F : Nat) (substituted : Bool) : Decision :=
  if F = 0 ∧ substituted = false then .masked
  else if sl.record.S ≤ raw then .contribution .satOnly
  else .contribution (.add (contributionValue raw sl.B sl.record.G E F) substituted)

/-- The decision on a data pixel taken for an exposure (R66, R67). -/
def decisionOf (sl : IntakeSlot) (e : Exposure) (k : StackRecord) (raw row col : Nat) : Decision :=
  if onFrame k (mosaicOf sl.record e.dx e.dy row col) then
    match flatInput sl row col with
    | none => .wait
    | some (F, substituted) => classify sl e.E raw F substituted
  else .offFrame

/-! ### Deciding and handing over (R66, R73) -/

/-- The cursor of a slot moves past the pixel decided, and the intake buffer settles (R60, R66). -/
def State.advanceCursor (slot : Nat) (s : State) : State :=
  (s.updateSlot slot fun sl => { sl with cursor := sl.cursor + 1 }).settleIntake

/-- The contribution of a data pixel at its mosaic position (R73). -/
def contributionAt (e : Exposure) (kind : ContribKind) (p : Int × Int) : Contribution :=
  { kind := kind, exposure := e.id, stackSlot := e.stackSlot, x := p.1.toNat, y := p.2.toNat }

/-- The calibration unit decides a data pixel (R67), or leaves the cursor at it while its flat line is PENDING (R66) or
the placement queue refuses its contribution (R73, R85). -/
def State.decidePixel (sl : IntakeSlot) (e : Exposure) (raw row col : Nat) (s : State) : State :=
  match decisionOf sl e (s.stack e.stackSlot) raw row col with
  | .wait => s
  | .offFrame => ((s.reportFate e.id .offFrame).advanceCursor sl.tag).testDone e.id
  | .masked => ((s.reportFate e.id .masked).advanceCursor sl.tag).testDone e.id
  | .contribution kind =>
    let c := contributionAt e kind (mosaicOf sl.record e.dx e.dy row col)
    let a := cellAddress (s.stack e.stackSlot) c.x c.y
    match s.formContribution (lineOf a) (laneIndex a) c with
    | some s => s.advanceCursor sl.tag
    | none => s

/-- The slot in work: the oldest whose cursor has not passed its last pixel (R66). -/
def State.workingSlot (s : State) : Option IntakeSlot := s.intake.find? fun sl => !sl.decided

/-- The pixel at the working slot's cursor is decided, if it is a data pixel taken for a queued exposure. -/
def State.calibrate (s : State) : State :=
  match s.workingSlot with
  | none => s
  | some sl =>
    match sl.pixels[sl.cursor]?, sl.exposure.bind s.exposure? with
    | some { raw := raw, cls := .data row col, taken := true }, some e => s.decidePixel sl e raw row col
    | _, _ => s

/-- CALIBRATE_PIXEL (R66, R67). -/
def execCalibratePixel (s : State) : Host.Outcome State Fault Refusal := act (fun s => s.settleIntake.calibrate) s

end Sys2Proof.Machine
end

