-- ==== Sys2Proof/Machine/Stacks.lean ====
section
/-! DEFINITION. The stack unit and its sweep engine (R97 to R118). -/

namespace Sys2Proof.Machine

/-- A stack state's number in results and in the status block (R97). -/
def StackState.number : StackState → Nat
  | .empty => 0
  | .clearing => 1
  | .openState => 2
  | .rendering => 3
  | .rendered => 4

/-! ### The checks of OPEN_STACK (R101, R102) -/

/-- Either new region overlaps a region. -/
def StackParams.overlap (p : StackParams) (base size : Nat) : Bool :=
  overlaps p.cellBase (p.width * p.height * 8) base size || overlaps p.outputBase (p.width * p.height * 4) base size

/-- The lowest valid record whose raw window a new region overlaps (R102 order 4). -/
def State.windowMet (s : State) (p : StackParams) : Option SegIdx :=
  (List.finRange 128).find? fun i => s.segs[i].valid && p.overlap s.segs[i].rawBase s.segs[i].windowSize

/-- The detail of the first overlap found (R102). -/
def State.overlapDetail (s : State) (k : StackSlot) (p : StackParams) : Option Nat :=
  if overlaps p.cellBase (p.width * p.height * 8) p.outputBase (p.width * p.height * 4) then some 1
  else if (s.stack k.other).regionsOverlap p.cellBase (p.width * p.height * 8)
      || (s.stack k.other).regionsOverlap p.outputBase (p.width * p.height * 4) then some 2
  else if p.overlap s.controlBase Config.controlAreaSize then some 3
  else (s.windowMet p).map fun i => 256 + i.1

/-- The first check of R101 that fails, for a slot, with its result and detail. -/
def State.openStackCheck (s : State) (k : StackSlot) (p : StackParams) : Option (ResultCode × Nat) :=
  if (s.stack k).state ≠ .empty ∧ (s.stack k).state ≠ .rendered then some (.stackState, k.number)
  else if p.cellBase % 32 ≠ 0 then some (.badParameter, 262)
  else if p.outputBase % 32 ≠ 0 then some (.badParameter, 263)
  else if p.width < 8 ∨ 16384 < p.width ∨ p.width % 8 ≠ 0 then some (.badParameter, 264)
  else if p.height < 1 ∨ 16384 < p.height then some (.badParameter, 265)
  else if p.Nrej = 1 ∨ p.Nrej = 2 ∨ 63 < p.Nrej then some (.badParameter, 266)
  else if Config.addressSpace < p.cellBase + p.width * p.height * 8
      ∨ Config.addressSpace < p.outputBase + p.width * p.height * 4 then some (.badParameter, 267)
  else (s.overlapDetail k p).map fun d => (.overlap, d)

/-! ### The sweep engine (R104) -/

/-- The stack has a sweep in progress (R104). -/
def StackRecord.sweeping (k : StackRecord) : Bool := k.state == .clearing || k.state == .rendering

/-- The transfer in flight is a sweep's. -/
def Owner.isSweep : Owner → Bool
  | .clear _ | .renderRead _ | .renderWrite _ => true
  | _ => false

/-- The transfer in flight is a sweep's of this stack. -/
def Owner.sweepOf (k : StackSlot) : Owner → Bool
  | .clear j | .renderRead j | .renderWrite j => j == k
  | _ => false

/-- A sweep transfer is in flight (R104: at most one). -/
def State.sweepInFlight (s : State) : Bool := s.inFlight.any fun f => f.owner.isSweep

/-- The start of the cursor row of a stack. -/
def State.rowStart (s : State) (k : StackSlot) : SweepWork :=
  { slot := k, line := 0, step := if (s.stack k).state = .clearing then .clear else .renderRead0 }

/-- The engine takes up the cursor row of the preferred stack if its sweep is in progress, otherwise of the other stack
if its is (R104). -/
def State.takeUp (prefer : StackSlot) (s : State) : State :=
  { s with
    sweep :=
      if (s.stack prefer).sweeping then some (s.rowStart prefer)
      else if (s.stack prefer.other).sweeping then some (s.rowStart prefer.other)
      else none }

/-- A sweep is accepted: an idle engine begins it at once (R104). -/
def State.beginSweep (k : StackSlot) (s : State) : State :=
  if s.sweep.isNone && !s.sweepInFlight then s.takeUp k else s

/-- An accepted OPEN_STACK (R103). -/
def State.openStack (k : StackSlot) (p : StackParams) (s : State) : State :=
  ((s.setStack k
    { state := .clearing, cellBase := p.cellBase, outputBase := p.outputBase, width := p.width, height := p.height
      Nrej := p.Nrej, cursor := 0, refCount := 0 }).beginSweep k).request

/-- The first check of R108 that fails, for a slot. -/
def State.renderCheck (s : State) (k : StackSlot) : Option (ResultCode × Nat) :=
  if (s.stack k).state ≠ .openState then some (.stackState, k.number)
  else if 0 < (s.stack k).refCount then some (.stackInUse, (s.stack k).refCount)
  else none

/-- An accepted RENDER_STACK (R108). -/
def State.renderStack (k : StackSlot) (s : State) : State :=
  ((s.setStack k { s.stack k with state := .rendering, cursor := 0 }).beginSweep k).request

/-- A row of a stack is complete (R105, R106, R109, R113): the cursor advances; at height the sweep ends with its state
and flag, otherwise a multiple of 256 requests a rewrite; then the engine chooses the next row (R104). -/
def State.completeRow (k : StackSlot) (s : State) : State :=
  let r := s.stack k
  let s :=
    if r.height ≤ r.cursor + 1 then
      if r.state = .clearing then
        ((s.setStack k { r with state := .openState, cursor := r.cursor + 1 }).setFlag .stackReady).request
      else ((s.setStack k { r with state := .rendered, cursor := r.cursor + 1 }).setFlag .stackRendered).request
    else if (r.cursor + 1) % 256 = 0 then (s.setStack k { r with cursor := r.cursor + 1 }).request
    else s.setStack k { r with cursor := r.cursor + 1 }
  s.takeUp k.other

/-- The sweep engine goes on to the next line of the row, `last` being the row's number of lines, or completes it. -/
def State.nextLine (w : SweepWork) (lines : Nat) (step : SweepStep) (s : State) : State :=
  if w.line + 1 < lines then { s with sweep := some { w with line := w.line + 1, step := step } }
  else s.completeRow w.slot

/-- A clear write fault ends the clear sweep (R107). -/
def State.clearFault (k : StackSlot) (s : State) : State :=
  ((((s.setStack k { s.stack k with state := .empty }).setFlag .stackFault).memoryFault).request).takeUp k.other

/-! ### The render arithmetic (R110) -/

/-- The output pixel of a cell (R110). -/
def renderPixel (Nrej : Nat) (c : Cell) : Int :=
  if c.count = 0 then (if c.sat then saturationPixel else blankPixel)
  else if Nrej ≠ 0 ∧ Nrej ≤ c.count then clampQe (roundAway (c.sum - c.peak) (c.count - 1))
  else clampQe (roundAway c.sum c.count)

/-- The four output pixels of a cell line, 4 bytes each (R110). -/
def renderLine (Nrej : Nat) (l : Line) : Nat :=
  (List.finRange 4).foldr (fun j n => n + placeAt (4 * j.1) 4 (unsignedOf 32 (renderPixel Nrej (cellOf (laneOf l j))))) 0

/-- The line of eight blank markers (R111). -/
def blankLine : Line :=
  BitVec.ofNat 256 ((List.range 8).foldr (fun j n => n + placeAt (4 * j) 4 (unsignedOf 32 blankPixel)) 0)

/-- The output line of a pair of cell lines: blank if either read faulted (R109, R111). -/
def pairLine : Option Nat → Option Nat → Line
  | some lo, some hi => BitVec.ofNat 256 (lo + hi * 2 ^ 128)
  | _, _ => blankLine

/-! ### Terminations (R105, R107, R109 to R112, R115) -/

/-- The termination of a transfer whose sweep was stopped (R115): it ends a waiting DISCARD_STACK, and an idle engine
takes up a sweep in progress. -/
def State.sweepLetGo (s : State) : State :=
  let s := if s.sweep.isNone then s.takeUp .zero else s
  match s.engine with
  | .executing c (.discarding was) => s.finish c .ok was
  | _ => s

/-- The transfer in flight is a clear write. -/
def Owner.isClear : Owner → Bool
  | .clear _ => true
  | _ => false

/-- The transfer in flight is a render read. -/
def Owner.isRenderRead : Owner → Bool
  | .renderRead _ => true
  | _ => false

/-- The transfer in flight is a render write. -/
def Owner.isRenderWrite : Owner → Bool
  | .renderWrite _ => true
  | _ => false

/-- CLEAR_WRITE_DONE (R105 to R107, R115). -/
def execClearWriteDone (result : Termination) (s : State) : Host.Outcome State Fault Refusal :=
  act (fun s =>
    match s.findInFlight fun f => f.owner.isClear with
    | none => s
    | some f =>
      let s := s.land fun f => f.owner.isClear
      match f.live, s.sweep, result with
      | true, some w, .done _ => s.nextLine w ((s.stack w.slot).width / 4) .clear
      | true, some w, .fault => s.clearFault w.slot
      | _, _, _ => s.sweepLetGo) s

/-- A render read has been terminated: the sweep goes on to the second read, or to the write (R109). -/
def State.afterRenderRead (w : SweepWork) (pixels : Option Nat) (s : State) : State :=
  match w.step with
  | .renderRead0 => { s with sweep := some { w with step := .renderRead1 pixels } }
  | .renderRead1 lo => { s with sweep := some { w with step := .renderWrite (pairLine lo pixels) } }
  | _ => s

/-- RENDER_READ_DONE (R109 to R111, R115). -/
def execRenderReadDone (result : Termination) (s : State) : Host.Outcome State Fault Refusal :=
  act (fun s =>
    match s.findInFlight fun f => f.owner.isRenderRead with
    | none => s
    | some f =>
      let s := s.land fun f => f.owner.isRenderRead
      match f.live, s.sweep, result with
      | true, some w, .done line => s.afterRenderRead w (some (renderLine (s.stack w.slot).Nrej line))
      | true, some w, .fault => s.memoryFault.afterRenderRead w none
      | _, _, _ => s.sweepLetGo) s

/-- RENDER_WRITE_DONE (R109, R112, R113, R115). -/
def execRenderWriteDone (result : Termination) (s : State) : Host.Outcome State Fault Refusal :=
  act (fun s =>
    match s.findInFlight fun f => f.owner.isRenderWrite with
    | none => s
    | some f =>
      let s := s.land fun f => f.owner.isRenderWrite
      match f.live, s.sweep, result with
      | true, some w, .done _ => s.nextLine w ((s.stack w.slot).width / 8) .renderRead0
      | true, some w, .fault => s.memoryFault.nextLine w ((s.stack w.slot).width / 8) .renderRead0
      | _, _, _ => s.sweepLetGo) s

/-! ### Discarding (R114, R115) -/

/-- The discard of a stack is accepted (R114, R115): it is EMPTY at once; a transfer in flight of its sweep is let go and
the command waits for its termination; a presented one is withdrawn, with the sweep wait count back at 0 (R148). -/
def State.discard (c : CurrentCommand) (k : StackSlot) (s : State) : State :=
  let was := (s.stack k).state.number
  let e := (s.setStack k { s.stack k with state := .empty }).request
  if s.inFlight.any fun f => f.live && f.owner.sweepOf k then
    { e with
      sweep := none
      inFlight := e.inFlight.map fun f => if f.owner.sweepOf k then { f with live := false } else f
      engine := .executing c (.discarding was) }
  else if s.sweep.any fun w => w.slot == k then
    ({ e.takeUp k.other with sweepWait := 0 }).finish c .ok was
  else e.finish c .ok was

end Sys2Proof.Machine
end

