-- ==== Sys2Proof/Machine/StatusBlock.lean ====
section
/-! DEFINITION. The status block and its rewrite (R45, R126, R172 to R176). -/

namespace Sys2Proof.Machine

/-! ### Records of the body (R176) -/

/-- A flag as a number. -/
def bit (b : Bool) : Nat := if b then 1 else 0

/-- An outcome's byte (R176). -/
def outcomeByte : Option ExposureOutcome → Nat
  | none => 0
  | some o => (if o.cut then 2 else 1) + (if o.degraded then 128 else 0)

/-- A cut reason's byte (R176). -/
def cutByte : Option CutReason → Nat
  | none => 0
  | some .short => 1
  | some .closed => 2
  | some .stalled => 3

/-- An exposure state's byte (R176). -/
def ExposureState.byte : ExposureState → Nat
  | .queued => 1
  | .reading => 2
  | .draining => 3
  | .done => 4

/-- The eight tallies, 4 bytes each, at an offset (R176). -/
def talliesAt (off : Nat) (t : Tallies) : Nat :=
  placeAt off 4 t.taken + placeAt (off + 4) 4 t.offFrame + placeAt (off + 8) 4 t.masked
    + placeAt (off + 12) 4 t.saturated + placeAt (off + 16) 4 t.placed + placeAt (off + 20) 4 t.overflow
    + placeAt (off + 24) 4 t.lost + placeAt (off + 28) 4 t.degraded

/-- A stack record's 32 bytes (R176). -/
def stackBytes (k : StackSlot) (r : StackRecord) : Nat :=
  placeAt 0 8 r.cellBase + placeAt 8 8 r.outputBase + placeAt 0x10 2 r.width + placeAt 0x12 2 r.height
    + placeAt 0x14 2 r.cursor + placeAt 0x16 1 r.Nrej + placeAt 0x17 1 r.state.number + placeAt 0x18 1 r.refCount
    + placeAt 0x19 1 k.number

/-- A queued exposure's 64 bytes (R176). -/
def exposureBytes (e : Exposure) : Nat :=
  placeAt 0 2 e.id + placeAt 2 1 e.stackSlot.number + placeAt 3 1 e.state.byte + placeAt 4 1 (cutByte e.cutReason)
    + placeAt 5 1 (outcomeByte e.outcome) + placeAt 6 1 (bit e.timer.isSome) + placeAt 8 4 e.outstanding
    + placeAt 0x10 16 e.ended.toNat + talliesAt 0x20 e.tallies

/-- A retired exposure's 48 bytes (R176). -/
def retiredBytes (e : Retired) : Nat :=
  placeAt 0 2 e.id + placeAt 2 1 e.stackSlot.number + placeAt 3 1 (outcomeByte e.outcome)
    + placeAt 4 1 (cutByte e.cutReason) + placeAt 8 2 (unsignedOf 16 e.dx) + placeAt 0x0A 2 (unsignedOf 16 e.dy)
    + talliesAt 0x10 e.tallies

/-- A hit record's bytes within its watch entry (R176); 0 when absent. -/
def hitBytes : Option HitRecord → Nat
  | none => 0
  | some h =>
    placeAt 0x0C 2 h.exposure + placeAt 0x10 2 h.x + placeAt 0x12 2 h.y
      + match h.value with
        | .add V => placeAt 6 1 1 + placeAt 0x14 4 (unsignedOf 32 V)
        | .sat => placeAt 6 1 2

/-- A watch entry's 32 bytes (R176). -/
def watchBytes (w : WatchEntry) : Nat :=
  placeAt 0 1 (bit w.enabled) + placeAt 1 1 w.stackSlot.number + placeAt 2 2 w.x + placeAt 4 2 w.y
    + placeAt 8 4 (unsignedOf 32 w.threshold) + placeAt 0x0E 2 w.hitCount + hitBytes w.hit

/-- A progress state's byte and current exposure id (R176). -/
def ProgressState.bytes : ProgressState → Nat
  | .idle => 0
  | .armed id => placeAt 0 1 1 + placeAt 2 2 id
  | .reading id => placeAt 0 1 2 + placeAt 2 2 id

/-- A progress record's 16 bytes (R176). -/
def progressBytes (p : Progress) : Nat := p.state.bytes + placeAt 4 4 p.count + placeAt 8 4 p.B

/-! ### The body lines (R173, R176) -/

/-- The engine state's number (R176). -/
def Engine.number : Engine → Nat
  | .idle => 0
  | .executing _ _ => 1

/-- Body line 0, at offset 0x0120 (R176). -/
def State.headLine (s : State) : Nat :=
  placeAt 0 4 0x4A4D0416 + placeAt 4 1 s.engine.number + placeAt 5 1 s.last.tag.toNat + placeAt 6 1 s.last.code.toNat
    + placeAt 7 1 s.last.result.number + placeAt 8 2 s.last.detail + placeAt 12 4 s.flags.toNat
    + placeAt 16 4 s.enables.toNat
    + placeAt 20 4 (bit s.attn + 256 * s.level.toNat + 65536 * s.base.toNat)

/-- Body line 1, at offset 0x0140: the eight counters by index (R170). -/
def State.counterLine (s : State) : Nat :=
  (List.finRange 8).foldr (fun i n => n + placeAt (4 * i.1) 4 (s.counters[i]).toNat) 0

/-- The bytes of a list's place, every byte 0 beyond the list (R176). -/
def placeBytes {α : Type} (f : α → Nat) (l : List α) (i : Nat) : Nat := (l[i]?).elim 0 f

/-- The retired list's 192 bytes (R176). -/
def State.retiredArea (s : State) : Nat :=
  (List.range 4).foldr (fun i n => n + placeBytes retiredBytes s.retired i <<< (8 * 48 * i)) 0

/-- The progress record of a number up to 127. -/
def State.progressAt (s : State) (i : Nat) : Progress := s.progress[Fin.ofNat 128 i]

/-- Body line `m`, 0 to 85, at offset 0x0120 + 32 × m (R173, R176). -/
def State.bodyLine (s : State) (m : Nat) : Nat :=
  if m = 0 then s.headLine
  else if m = 1 then s.counterLine
  else if m = 2 then stackBytes .zero s.stack0
  else if m = 3 then stackBytes .one s.stack1
  else if m < 12 then bytesAt (placeBytes exposureBytes s.queue ((m - 4) / 2)) (32 * ((m - 4) % 2)) 32
  else if m < 18 then bytesAt s.retiredArea (32 * (m - 12)) 32
  else if m < 22 then watchBytes s.watch[Fin.ofNat 4 (m - 18)]
  else progressBytes (s.progressAt (2 * (m - 22))) + progressBytes (s.progressAt (2 * (m - 22) + 1)) * 2 ^ 128

/-! ### The rewrite (R173, R174) -/

/-- Write number `n` of a rewrite, with the values in force: 0 the leading copy, 1 to 86 the body, 87 the trailing copy
(R173). -/
def State.statusWrite (s : State) (n : Nat) : MemTransfer :=
  if n = 0 then ownWrite (s.controlBase + 0x0100) .word (s.rewriteCount.setWidth 256) none
  else if n ≤ 86 then
    ownWrite (s.controlBase + 0x0120 + 32 * (n - 1)) .line (BitVec.ofNat 256 (s.bodyLine (n - 1))) none
  else ownWrite (s.controlBase + 0x0FE0) .word (s.rewriteCount.setWidth 256) none

/-- The number of the trailing copy's write (R173). -/
def trailingCopy : Nat := 87

/-- STATUS_WRITE_DONE (R173, R174): the rewrite goes on, completes, or is abandoned on a FAULT. A write that a RESTART let
go has no effect (R164). -/
def execStatusWriteDone (result : Termination) (s : State) : Host.Outcome State Fault Refusal :=
  act (fun s =>
    match s.findInFlight fun f => f.owner == .status with
    | none => s
    | some f =>
      let s := s.land fun f => f.owner == .status
      match f.live, s.rewrite, result with
      | true, some n, .done _ => if trailingCopy ≤ n then s.endRewrite else { s with rewrite := some (n + 1) }
      | true, some _, .fault => (s.endRewrite.setFlag .reportFault).bump .memoryFaults
      | _, _, _ => s) s

end Sys2Proof.Machine
end

