-- ==== Sys2Proof/Machine/Arbiter.lean ====
section
/-! DEFINITION. The requesters' presented transfers and the arbiter (R145 to R151). -/

namespace Sys2Proof.Machine

/-! ### Presented transfers (R146) -/

/-- What a requester presents: while RESET is asserted nothing, since every presented transfer is dropped (R155). -/
def State.presented {α : Type} (s : State) (request : Option α) : Option α := if s.resetAsserted then none else request

/-- The C-port's forwarded transfer while presented (R131, R146). -/
def State.forwardRequest (s : State) : Option MemTransfer :=
  s.presented <| match s.current with
  | some { transfer := t, stage := .forwarding } => if s.inFlightFor .forward then none else some (forwarded t)
  | _ => none

/-- The report writer's presented write (R173), with the values now in force. -/
def State.statusRequest (s : State) : Option (Owner × MemTransfer) :=
  s.presented <| match s.rewrite with
  | some n => if s.inFlightFor .status then none else some (.status, s.statusWrite n)
  | none => none

/-- The address of the command engine's next read: the parameter block's two lines (R158), or the two lines of a plan
table record (R6, R7). -/
def State.commandAddress (s : State) : Option Nat :=
  match s.engine with
  | .executing _ (.params none) => some (s.controlBase + 0x0040)
  | .executing _ (.params (some _)) => some (s.controlBase + 0x0060)
  | .executing _ (.planCheck i none _) => some (s.controlBase + 0x1000 + 64 * i.1)
  | .executing _ (.planCheck i (some _) _) => some (s.controlBase + 0x1000 + 64 * i.1 + 32)
  | .executing _ (.planInstall i none) => some (s.controlBase + 0x1000 + 64 * i.1)
  | .executing _ (.planInstall i (some _)) => some (s.controlBase + 0x1000 + 64 * i.1 + 32)
  | _ => none

/-- The command reader's presented read (R146). -/
def State.commandRequest (s : State) : Option (Owner × MemTransfer) :=
  s.presented <| if s.inFlightFor .command then none else s.commandAddress.map fun a => (.command, lineRead a)

/-- The placement engine's presented transfer (R86). -/
def State.placementRequest (s : State) : Option (Owner × MemTransfer) :=
  s.presented <| (s.placePresented.bind s.entry?).bind fun e => (entryTransfer e).map fun x => (.placement e.tag, x)

/-- The flat fetcher's presented read (R63). -/
def State.flatGrant (s : State) : Option (Owner × MemTransfer) :=
  s.presented <| s.flatRequest.map fun r => (.flat r.1, lineRead r.2)

/-- The transfer of the sweep engine's step (R105, R109). -/
def State.sweepTransfer (s : State) (w : SweepWork) : Owner × MemTransfer :=
  let r := s.stack w.slot
  match w.step with
  | .clear => (.clear w.slot, ownWrite (r.cellLine r.cursor w.line) .line 0 (some (BitVec.allOnes 4)))
  | .renderRead0 => (.renderRead w.slot, lineRead (r.cellLine r.cursor (2 * w.line)))
  | .renderRead1 _ => (.renderRead w.slot, lineRead (r.cellLine r.cursor (2 * w.line + 1)))
  | .renderWrite line => (.renderWrite w.slot, ownWrite (r.outputLine r.cursor w.line) .line line none)

/-- The sweep engine's presented transfer (R104). -/
def State.sweepRequest (s : State) : Option (Owner × MemTransfer) :=
  s.presented <| if s.sweepInFlight then none else s.sweep.map s.sweepTransfer

/-- The keep-raw copier's presented write (R61). -/
def State.copyRequest (s : State) : Option (Owner × MemTransfer) :=
  s.presented <| s.copySlot.map fun sl => (.copy sl.tag, copyTransfer sl)

/-! ### Grantable transfers (R149, R150) -/

/-- The copy is kept back while an earlier copy that overlaps it is in flight (R149). -/
def State.copyGrant (s : State) : Option (Owner × MemTransfer) :=
  s.copyRequest.filter fun c => !s.inFlight.any (InFlight.copyOver c.2.addr c.2.size.bytes)

/-- A forward-class transfer presented or in flight, or an unwritten copy, touches the line (R150). -/
def State.forwardTouches (s : State) (line : Nat) : Bool :=
  (s.forwardRequest.any fun x => x.touchesLine line)
    || (s.inFlight.any fun f => f.owner == .forward && f.transfer.touchesLine line)
    || !(s.unwrittenOver line 32).isEmpty

/-- The sweep's transfer, unless it is kept back (R150). -/
def State.sweepGrant (s : State) : Option (Owner × MemTransfer) :=
  s.sweepRequest.filter fun r => !s.forwardTouches r.2.addr

/-- The forward class: the copy before the C-port's transfer (R149). -/
def State.forwardGrant (s : State) : Option (Owner × MemTransfer) :=
  s.copyGrant <|> s.forwardRequest.map fun x => (.forward, x)

/-- The internal class in its order (R148), without the sweep guarantee. -/
def State.internalOrder (s : State) : Option (Owner × MemTransfer) :=
  s.statusRequest <|> s.commandRequest <|> s.placementRequest <|> s.flatGrant <|> s.sweepGrant

/-- The internal class's choice (R148). -/
def State.internalGrant (s : State) : Option (Owner × MemTransfer) :=
  if s.sweepWait = Config.sweepPatience ∧ s.sweepGrant.isSome then s.sweepGrant else s.internalOrder

/-! ### A grant (R147) -/

/-- What a grant does at its requester: a copy becomes HANDED and its slot may leave (R61, R60); the placement engine
presents its next write (R86); the initial leading copy has been granted (R155). -/
def State.afterGrant (o : Owner) (s : State) : State :=
  match o with
  | .copy slot => (s.updateSlot slot fun sl => { sl with copy := .handed }).settleIntake
  | .placement _ => ({ s with placePresented := none }).presentWrite
  | .status => { s with initialLead := false }
  | _ => s

/-- The transfer is granted and issued (R147). -/
def State.grant (g : Owner × MemTransfer) (s : State) : State := (s.issue g.1 g.2).afterGrant g.1

/-- The sweep wait count after an internal grant (R148). -/
def State.waitAfter (s : State) (o : Owner) : Nat :=
  if o.isSweep then 0 else if s.sweepGrant.isSome then min Config.sweepPatience (s.sweepWait + 1) else 0

/-- A grant to the forward class: turn then names the internal class (R147). -/
def State.grantForward (g : Owner × MemTransfer) (s : State) : State := { s.grant g with turn := .internal }

/-- A grant to the internal class: turn then names the forward class, and the sweep wait count moves (R147, R148). -/
def State.grantInternal (g : Owner × MemTransfer) (s : State) : State :=
  { s.grant g with turn := .forward, sweepWait := s.waitAfter g.1 }

/-- A grant while the lock state is NONE (R147). -/
def State.grantFree (s : State) : State :=
  match s.forwardGrant, s.internalGrant with
  | none, none => s
  | some f, none => s.grantForward f
  | none, some i => s.grantInternal i
  | some f, some i =>
    match s.turn with
    | .forward => s.grantForward f
    | .internal => s.grantInternal i

/-- The LOCKED read is granted once the in-flight set is empty, and the lock state becomes HELD (R151). It waits while a
RESTART drains (R155) and behind the initial leading copy (R155, log entry 8). -/
def State.grantLocked (s : State) : State :=
  if s.inFlight.isEmpty && !s.initialLead && !s.restartDraining then
    match s.forwardRequest with
    | some x => { s.grant (.forward, x) with lockState := .held }
    | none => s
  else s

/-- One grant of the arbiter (R147, R151, R155). While a RESTART drains nothing is granted; until the leading copy of an
initial rewrite has been granted, nothing else is. -/
def State.arbitrate (s : State) : State :=
  if s.restartDraining then s
  else if s.initialLead then
    match s.statusRequest with
    | some g => s.grantInternal g
    | none => s
  else
    match s.lockState with
    | .free => s.grantFree
    | .draining => s.grantLocked
    | .held =>
      match s.forwardRequest with
      | some x => s.grant (.forward, x)
      | none => s

/-- ARBITER_GRANT (R147). With nothing grantable no grant takes place. -/
def execArbiterGrant (s : State) : Host.Outcome State Fault Refusal := act State.arbitrate s

end Sys2Proof.Machine
end

