-- ==== Sys2Proof/Machine/Engine.lean ====
section
/-! DEFINITION. The command engine: the capture of a command word (R157, R159), the parameter reads (R158), the commands
handed to their owners, both passes of LOAD_PLAN (R3 to R9), and RESTART (R164, R165). -/

namespace Sys2Proof.Machine

/-! ### Capture (R157, R159) -/

/-- A command word refused busy (R159). -/
def State.refuseBusy (s : State) : State := (s.setFlag .commandRefusedBusy).bump .busyRefusals

/-- A command word handed to the engine at its take (R157, R159). -/
def State.captureCommand (w : BitVec 32) (s : State) : State :=
  match s.engine with
  | .executing _ _ => s.refuseBusy
  | .idle =>
    match commandOf (wordCode w).toNat with
    | some code =>
      { s with engine := .executing { code := code, tag := wordTag w, arg := wordArg w } (.params none) }
    | none => s.endCommand (wordCode w) (wordTag w) .badCommand (wordCode w).toNat

/-! ### OPEN_EXPOSURE (R23, R24) -/

/-- The lowest segment of a set that is not valid in the installed table (R23 order 10). -/
def State.lowestInvalid (s : State) (m : BitVec 128) : Option SegIdx :=
  (List.finRange 128).find? fun i => m.getLsbD i.1 && !s.segs[i].valid

/-- The first check of R23 that fails, with its result and detail. -/
def State.openExposureCheck (s : State) (id : Nat) (p : ExposureParams) : Option (ResultCode × Nat) :=
  if id = 0 then some (.badParameter, 256)
  else if Config.queueCapacity ≤ s.queue.length then some (.queueFull, 4)
  else if (s.exposure? id).isSome then some (.duplicateId, id)
  else
    match slotOf p.slot with
    | none => some (.badParameter, 257)
    | some k =>
      if (s.stack k).state ≠ .openState then some (.stackState, k.number)
      else if p.E = 0 then some (.badParameter, 258)
      else if p.dx < -8192 ∨ 8191 < p.dx then some (.badParameter, 259)
      else if p.dy < -8192 ∨ 8191 < p.dy then some (.badParameter, 260)
      else if p.segSet = 0#128 then some (.badParameter, 261)
      else (s.lowestInvalid p.segSet).map fun i => (.badParameter, i.1)

/-- The record OPEN_EXPOSURE appends (R24). -/
def newExposure (id : Nat) (k : StackSlot) (p : ExposureParams) : Exposure :=
  { id := id, stackSlot := k, dx := p.dx, dy := p.dy, E := p.E, stallTimeout := p.stallTimeout, segSet := p.segSet
    state := .queued, cutReason := none, outcome := none, ended := 0, outstanding := 0, timer := none
    tallies := Tallies.zero }

/-- Each IDLE record of the segment set becomes ARMED for the new exposure (R24). -/
def State.armIdle (id : Nat) (m : BitVec 128) (s : State) : State :=
  { s with
    progress := Vector.ofFn fun i =>
      if m.getLsbD i.1 && s.progress[i].state == .idle then s.progress[i].assign (some id) else s.progress[i] }

/-- An accepted OPEN_EXPOSURE (R24). -/
def State.openExposure (id : Nat) (k : StackSlot) (p : ExposureParams) (s : State) : State :=
  ((({ s with queue := s.queue ++ [newExposure id k p] }.setStack k
    { s.stack k with refCount := (s.stack k).refCount + 1 }).armIdle id p.segSet).request)

/-- OPEN_EXPOSURE at its owner (R23, R24). -/
def State.runOpenExposure (c : CurrentCommand) (p : ExposureParams) (s : State) : State :=
  match s.openExposureCheck c.arg.toNat p, slotOf p.slot with
  | some r, _ => s.finish c r.1 r.2
  | none, some k => (s.openExposure c.arg.toNat k p).finish c .ok (s.queue.length + 1)
  | none, none => s

/-! ### CLOSE_EXPOSURE (R27) -/

/-- CLOSE_EXPOSURE at its owner (R27). -/
def State.runCloseExposure (c : CurrentCommand) (s : State) : State :=
  match s.exposure? c.arg.toNat with
  | none => s.finish c .noSuchExposure 0
  | some e =>
    if e.state = .draining ∨ e.state = .done then s.finish c .alreadyEnded 0
    else (s.cutExposure c.arg.toNat .closed).finish c .ok (memberCount (e.segSet &&& ~~~e.ended))

/-! ### The stack commands (R101 to R103, R108, R114) -/

/-- OPEN_STACK at its owner (R101 to R103). -/
def State.runOpenStack (c : CurrentCommand) (p : StackParams) (s : State) : State :=
  match slotOf c.arg.toNat with
  | none => s.finish c .badParameter 257
  | some k =>
    match s.openStackCheck k p with
    | some r => s.finish c r.1 r.2
    | none => (s.openStack k p).finish c .ok k.number

/-- RENDER_STACK at its owner (R108). -/
def State.runRenderStack (c : CurrentCommand) (s : State) : State :=
  match slotOf c.arg.toNat with
  | none => s.finish c .badParameter 257
  | some k =>
    match s.renderCheck k with
    | some r => s.finish c r.1 r.2
    | none => (s.renderStack k).finish c .ok k.number

/-- DISCARD_STACK at its owner (R114, R115). -/
def State.runDiscardStack (c : CurrentCommand) (s : State) : State :=
  match slotOf c.arg.toNat with
  | none => s.finish c .badParameter 257
  | some k =>
    if 0 < (s.stack k).refCount then s.finish c .stackInUse (s.stack k).refCount else s.discard c k

/-! ### SET_WATCH and SET_ENABLES (R121, R122, R162) -/

/-- SET_WATCH at its owner (R121, R122). -/
def State.runSetWatch (c : CurrentCommand) (p : WatchParams) (s : State) : State :=
  match watchCheck c.arg.toNat p with
  | some r => s.finish c r.1 r.2
  | none => (s.replaceWatch c.arg.toNat p).finish c .ok c.arg.toNat

/-- SET_ENABLES (R162): bit 15 of the argument is not used. -/
def State.runSetEnables (c : CurrentCommand) (s : State) : State :=
  (s.replaceEnables (c.arg.setWidth 15)).finish c .ok (c.arg.setWidth 15).toNat

/-! ### RESTART (R164, R165) -/

/-- The C-port at a RESTART (R144): a held transfer, or a forwarded one not yet granted, is answered RETRY; one in flight
stays. -/
def State.releaseForRestart (s : State) : State :=
  match s.current with
  | none => s
  | some c =>
    match c.stage with
    | .held _ => s.answer c.transfer .retry
    | .forwarding => if s.inFlightFor .forward then s else s.answer c.transfer .retry

/-- A transfer in flight at a RESTART: only a forwarded one keeps its requester (R155). -/
def InFlight.letGo (f : InFlight) : InFlight := if f.owner = .forward then f else { f with live := false }

/-- RESTART takes effect (R164): every block takes its pin-reset value, but for the straps, the transfers in flight with
the C-port's one among them, the engine, which executes RESTART, the last result (log entry 18), and the arbiter's turn and
sweep wait count, which the end resets (R155). The count returns to 0 now if a presented sweep transfer is withdrawn
(R148). -/
def State.restart (c : CurrentCommand) (s : State) : State :=
  let p := s.releaseForRestart
  { State.pinReset s.base s.level with
    resetAsserted := s.resetAsserted, current := p.current, answers := p.answers, inFlight := s.inFlight.map InFlight.letGo
    engine := .executing c .draining, last := s.last, turn := s.turn
    sweepWait := if s.sweepRequest.isSome then 0 else s.sweepWait
    nextSlot := s.nextSlot, nextEntry := s.nextEntry, pending := s.pending }

/-- RESTART ends (R165): the arbiter takes its reset values, lock state NONE among them whatever lock record the C-port has
opened during the drain (R155; log entry 8), the command ends OK, and the initial rewrite starts with the mark clear. -/
def State.endRestart (c : CurrentCommand) (s : State) : State :=
  let e := { s with turn := .forward, sweepWait := 0, lockState := .free }.finish c .ok 0
  { e with mark := false, requested := false, retirements := 0, initialLead := true }.startRewrite

/-- RESTART_END (R155, R165): the in-flight set has become empty. -/
def execRestartEnd (s : State) : Host.Outcome State Fault Refusal :=
  act (fun s =>
    match s.engine with
    | .executing c .draining => if s.inFlight.isEmpty then s.endRestart c else s
    | _ => s) s

/-! ### LOAD_PLAN (R3 to R9) -/

/-- LOAD_PLAN begins (R5). -/
def State.runLoadPlan (c : CurrentCommand) (s : State) : State :=
  if s.queue.isEmpty then { s with engine := .executing c (.planCheck 0 none []) } else s.finish c .inUse 0

/-- The raw window of a valid record overlaps a region it may not (R4): a window already passed, the control area, or a
region of a stack that is not EMPTY. -/
def State.windowOverlaps (s : State) (r : SegRecord) (windows : List (Nat × Nat)) : Bool :=
  (windows.any fun w => overlaps r.rawBase r.windowSize w.1 w.2)
    || overlaps r.rawBase r.windowSize s.controlBase Config.controlAreaSize
    || s.stack0.regionsOverlap r.rawBase r.windowSize || s.stack1.regionsOverlap r.rawBase r.windowSize

/-- A record passes pass 1 (R3, R4). -/
def State.recordPasses (s : State) (r : SegRecord) (windows : List (Nat × Nat)) : Bool :=
  !r.valid || (r.passesR3 && !s.windowOverlaps r windows)

/-- The windows passed so far, with the record's if it is valid (R4). -/
def addWindow (r : SegRecord) (windows : List (Nat × Nat)) : List (Nat × Nat) :=
  if r.valid then windows ++ [(r.rawBase, r.windowSize)] else windows

/-- The segment table and the progress records as pass 2 starts, and as PLAN_LOST leaves them (R7, R8, R48). -/
def State.clearPlan (s : State) : State :=
  { s with
    segs := Vector.ofFn fun i => { s.segs[i] with valid := false }
    progress := Vector.replicate 128 Progress.empty }

/-- Pass 2 starts (R7). -/
def State.startPass2 (c : CurrentCommand) (s : State) : State :=
  { s.clearPlan with engine := .executing c (.planInstall 0 none) }

/-- Record `i` has been read in pass 1 (R6). -/
def State.checkRecord (c : CurrentCommand) (i : SegIdx) (r : SegRecord) (windows : List (Nat × Nat)) (s : State) :
    State :=
  if s.recordPasses r windows then
    if i.1 = 127 then s.startPass2 c
    else { s with engine := .executing c (.planCheck (i + 1) none (addWindow r windows)) }
  else s.finish c .planInvalid i.1

/-- PLAN_CHECK_READ_DONE (R6, R9). -/
def execPlanCheckReadDone (result : Termination) (s : State) : Host.Outcome State Fault Refusal :=
  act (fun s =>
    match s.engine, s.inFlightFor .command with
    | .executing c (.planCheck i first windows), true =>
      let s := s.land fun f => f.owner == .command
      match result, first with
      | .fault, _ => (s.memoryFault).finish c .planReadFault i.1
      | .done l, none => { s with engine := .executing c (.planCheck i (some l) windows) }
      | .done l, some l0 => s.checkRecord c i (segRecordOf (block l0 l)) windows
    | _, _ => s) s

/-- The number of valid records in the segment table. -/
def State.validCount (s : State) : Nat := ((List.finRange 128).filter fun i => s.segs[i].valid).length

/-- Record `i` is installed as read (R7): every field if it is valid, with B at its seed. -/
def State.installRecord (i : SegIdx) (r : SegRecord) (s : State) : State :=
  if r.valid then
    { s with segs := s.segs.set i.1 r i.2 }.setProgress i { s.progress[i] with B := r.biasSeed }
  else s

/-- PLAN_INSTALL_READ_DONE (R7 to R9). -/
def execPlanInstallReadDone (result : Termination) (s : State) : Host.Outcome State Fault Refusal :=
  act (fun s =>
    match s.engine, s.inFlightFor .command with
    | .executing c (.planInstall i first), true =>
      let s := s.land fun f => f.owner == .command
      match result, first with
      | .fault, _ => (s.clearPlan.memoryFault).finish c .planLost i.1
      | .done l, none => { s with engine := .executing c (.planInstall i (some l)) }
      | .done l, some l0 =>
        let s := s.installRecord i (segRecordOf (block l0 l))
        if i.1 = 127 then s.finish c .ok s.validCount
        else { s with engine := .executing c (.planInstall (i + 1) none) }
    | _, _ => s) s

/-! ### The parameter reads (R158) -/

/-- A command handed to the block that owns it, with the parameter block read (R158). -/
def State.handOver (c : CurrentCommand) (b : Nat) (s : State) : State :=
  match c.code with
  | .loadPlan => s.runLoadPlan c
  | .openStack => s.runOpenStack c (stackParams b)
  | .renderStack => s.runRenderStack c
  | .discardStack => s.runDiscardStack c
  | .openExposure => s.runOpenExposure c (exposureParams b)
  | .closeExposure => s.runCloseExposure c
  | .setWatch => s.runSetWatch c (watchParams b)
  | .setEnables => s.runSetEnables c
  | .report => s.finish c .ok 0
  | .restart => s.restart c

/-- PARAMETER_READ_DONE (R158). -/
def execParameterReadDone (result : Termination) (s : State) : Host.Outcome State Fault Refusal :=
  act (fun s =>
    match s.engine, s.inFlightFor .command with
    | .executing c (.params first), true =>
      let s := s.land fun f => f.owner == .command
      match result, first with
      | .fault, _ => (s.memoryFault).finish c .badParameter 271
      | .done l, none => { s with engine := .executing c (.params (some l)) }
      | .done l, some l0 => s.handOver c (block l0 l)
    | _, _ => s) s

end Sys2Proof.Machine
end

