-- ==== Sys2Proof/Machine/CameraPort.lean ====
section
/-! DEFINITION. The camera-side port (R128 to R144): the classification of a transfer at its take, the lock record, the
holds and their releases, the relay of memory's terminations, and the commands that are takes of transfers. -/

namespace Sys2Proof.Machine

/-! ### Refusals by the C-port (R132, R137) -/

/-- The effects of a malformed raw transfer (R132). -/
def State.malformed (s : State) : State := (s.setFlag .malformedRaw).bump .malformedRaw

/-- The effects of a blocked transfer (R137). -/
def State.blocked (s : State) : State := (s.setFlag .blockedWrite).bump .blockedWrites

/-! ### Forwarding (R131, R141, R153) -/

/-- The lock opens with a forwarded LOCKED read (R141): the lock state becomes DRAINING, and with nothing in flight the
read is granted at once (R151). -/
def State.openLock (t : Transfer) (s : State) : State :=
  { s with lock := some { initiator := t.initiator, line := lineOf t.start }, lockState := .draining }.grantLocked

/-- A transfer is handed to the forward class of the M-port (R131). -/
def State.handOn (t : Transfer) (s : State) : State :=
  let s := { s with current := some { transfer := t, stage := .forwarding } }
  if t.isLockedRead then s.openLock t else s

/-- The unwritten copies a transfer to be forwarded waits for: those overlapping a read or a PLAIN write, or the line of a
LOCKED read (R153). -/
def State.copiesNoted (s : State) (t : Transfer) : List Nat :=
  if t.isLockedRead then s.unwrittenOver (lineOf t.start) 32
  else if t.isPlainRead || t.isPlainWrite then s.unwrittenOver t.start t.len
  else []

/-- A transfer classified for forwarding: forwarded at once, or held behind unwritten copies (R131, R153). -/
def State.forward (t : Transfer) (s : State) : State :=
  if (s.copiesNoted t).isEmpty then s.handOn t else s.hold t (.copy (s.copiesNoted t))

/-! ### Classes 3 to 7 (R132, R133, R135 to R138) -/

/-- A transfer that touches the raw window of segment `i` (R132, R133). A HALF or WORD write that straddles an end of the
window has no row in R132: no window that passed pass 1 lets one (R3), but one that pass 2 installed unchecked can (R7). The
model takes it as a raw write, as if it lay wholly in the window (DESIGN CHOICE, log entry 21). -/
def State.routeRaw (i : SegIdx) (t : Transfer) (s : State) : State :=
  if t.isPlainRead then s.forward t
  else if t.isLockedRead then s.malformed.answer t .fault
  else if t.size = .byte then s.malformed.answer t .fault
  else if t.size = .line ∧ t.inside s.segs[i].rawBase s.segs[i].windowSize = false then s.answer t .split
  else if s.segs[i].writer.allows t.initiator = false then s.malformed.answer t .fault
  else if s.intake.length < Config.intakeCapacity then s.takeRaw i t
  else s.hold t .intakeFull

/-- The placement entries a read of a line is noted against (R93). -/
def State.entriesNoted (s : State) (line : Nat) : List Nat :=
  (s.entries.filter fun e => e.line == line).map (·.tag)

/-- A transfer that touches the cell region of a stack that is not EMPTY (R137). -/
def State.routeCell (k : StackSlot) (t : Transfer) (s : State) : State :=
  if t.isPlainRead then
    match (s.stack k).state with
    | .clearing => if (s.stack k).cellRow t.start < (s.stack k).cursor then s.forward t else s.answer t .retry
    | .openState =>
      if (s.entriesNoted (lineOf t.start)).isEmpty then s.forward t
      else s.hold t (.placement (s.entriesNoted (lineOf t.start)))
    | _ => s.forward t
  else s.blocked.answer t .fault

/-- A transfer that touches the output region of a stack that is not EMPTY (R138). -/
def State.routeOutput (k : StackSlot) (t : Transfer) (s : State) : State :=
  if (s.stack k).state = .rendering then
    if t.isPlainRead then
      if (s.stack k).outputRow t.start < (s.stack k).cursor then s.forward t else s.answer t .retry
    else s.blocked.answer t .fault
  else s.forward t

/-- An acknowledge word handed to the report unit at its take (R168, R125). -/
def State.acknowledge (w : BitVec 32) (s : State) : State :=
  let s := if w.getLsbD Flag.watchHit.bit then s.clearWatchHits else s
  let s := s.clearFlags (w.setWidth 15)
  if w.getLsbD 31 then s.clearCounters else s

/-- A transfer that touches the command-word line (R135). -/
def State.routeControl (t : Transfer) (s : State) : State :=
  if t.isPlainWrite ∧ t.size = .line then s.answer t .split
  else if t.isPlainWrite ∧ t.size = .word ∧ t.start = s.controlBase + commandWordOffset then
    (s.forward t).captureCommand (dataWord t.data)
  else if t.isPlainWrite ∧ t.size = .word ∧ t.start = s.controlBase + ackWordOffset then
    (s.forward t).acknowledge (dataWord t.data)
  else s.forward t

/-- The command engine is EXECUTING. -/
def State.executing (s : State) : Bool :=
  match s.engine with
  | .executing _ _ => true
  | .idle => false

/-- A transfer into the parameter block or the plan table (R136). -/
def State.routeTables (t : Transfer) (s : State) : State :=
  if s.executing && (t.isPlainWrite || t.isLockedRead) then s.hold t .command else s.forward t

/-- The transfer touches the command-word line (R130 condition 6). -/
def State.inControlLine (s : State) (t : Transfer) : Bool := t.touches s.controlBase 32

/-- The transfer touches the parameter block or the plan table (R130 condition 7, R136). -/
def State.inTables (s : State) (t : Transfer) : Bool :=
  t.touches (s.controlBase + 0x0040) 0x40 || t.touches (s.controlBase + 0x1000) 0x2000

/-- Conditions 3 to 8 of R130, for a transfer that is no ACKNOWLEDGE and no part of a locked sequence. -/
def State.routeAddress (t : Transfer) (s : State) : State :=
  match s.windowOf t with
  | some i => s.routeRaw i t
  | none =>
    match s.cellRegionOf t with
    | some k => s.routeCell k t
    | none =>
      match s.outputRegionOf t with
      | some k => s.routeOutput k t
      | none =>
        if s.inControlLine t then s.routeControl t
        else if s.inTables t then s.routeTables t
        else s.forward t

/-! ### Locked sequences and acknowledges (R140 to R142) -/

/-- The locking initiator's sequence is abandoned with a FAULT (R141). -/
def State.abandon (t : Transfer) (s : State) : State := (s.endLock).answer t .fault

/-- A write of the sequence within the locked line: refused in a region it may no longer meet, else forwarded (R141). -/
def State.routeSequence (t : Transfer) (s : State) : State :=
  if (s.windowOf t).isSome then s.malformed.abandon t
  else if (s.cellRegionOf t).isSome then s.blocked.abandon t
  else if (s.outputRegionOf t).any fun k => (s.stack k).state == .rendering then s.blocked.abandon t
  else s.forward t

/-- A transfer taken while a lock record is held (R141, R142). -/
def State.routeLocked (l : LockRecord) (t : Transfer) (s : State) : State :=
  if t.initiator ≠ l.initiator then s.answer t .retry
  else if t.isLockedWrite ∧ lineOf t.start = l.line then s.routeSequence t
  else s.abandon t

/-- The part answers the acknowledge of this level (R140). -/
def State.answersLevel (s : State) (level : BitVec 3) : Bool := s.level != 0#3 && level == s.level

/-- A transfer that is no answered acknowledge, with a lock record held or not (R130, R140 to R142). -/
def State.routeUnanswered (t : Transfer) (s : State) : State :=
  match s.lock, t.op with
  | some l, _ => s.routeLocked l t
  | none, .acknowledge _ => s.forward t
  | none, .lockedWrite _ => s.answer t .fault
  | none, .lockedLastWrite _ => s.answer t .fault
  | none, _ => s.routeAddress t

/-- The classification of a transfer at its take (R130, R140). -/
def State.route (t : Transfer) (s : State) : State :=
  match t.op with
  | .acknowledge level =>
    if s.answersLevel level then s.answer t (.done (BitVec.ofNat 256 s.cause)) else s.routeUnanswered t
  | _ => s.routeUnanswered t

/-- The take of a camera-side transfer: the C-port takes one when its current transfer is absent (R129), and the bus
carries only aligned ones (R128). A transfer not taken waits on the bus, and the part is unchanged. -/
def State.take (t : Transfer) (s : State) : State := if s.current.isNone && t.aligned then s.route t else s

/-! ### The takes (R130, R133, R135, R157, R168, R171) -/

/-- CAMERA_TRANSFER (R130). -/
def execCameraTransfer (t : Transfer) (s : State) : Host.Outcome State Fault Refusal := act (State.take t) s

/-- RAW_WRITE (R133): the take of a PLAIN write. -/
def execRawWrite (initiator : BitVec 3) (addr : BitVec 40) (size : Size) (data : Line) (s : State) :
    Host.Outcome State Fault Refusal :=
  act (State.take { initiator := initiator, addr := addr, size := size, op := .write data }) s

/-- ACKNOWLEDGE_TRANSFER (R171): the take of a transfer of kind ACKNOWLEDGE. -/
def execAcknowledgeTransfer (initiator level : BitVec 3) (s : State) : Host.Outcome State Fault Refusal :=
  act (State.take { initiator := initiator, addr := 0, size := .byte, op := .acknowledge level }) s

/-- A PLAIN WORD write into the first line of the control area (R135). -/
def State.controlWrite (s : State) (initiator : BitVec 3) (offset : Nat) (w : BitVec 32) : Transfer :=
  { initiator := initiator, addr := BitVec.ofNat 40 (s.controlBase + offset), size := .word, op := .write (w.setWidth 256) }

/-- ACK_CLEAR_FLAGS (R168): the take of an acknowledge-word write with bit 31 clear. -/
def execAckClearFlags (initiator : BitVec 3) (select : BitVec 31) (s : State) : Host.Outcome State Fault Refusal :=
  act (fun s => s.take (s.controlWrite initiator ackWordOffset (ackWord false select))) s

/-- ACK_CLEAR_COUNTERS (R168): the take of an acknowledge-word write with bit 31 set. -/
def execAckClearCounters (initiator : BitVec 3) (select : BitVec 31) (s : State) : Host.Outcome State Fault Refusal :=
  act (fun s => s.take (s.controlWrite initiator ackWordOffset (ackWord true select))) s

/-- The take of a command-word write (R157). -/
def State.takeCommand (initiator : BitVec 3) (code tag : BitVec 8) (arg : BitVec 16) (s : State) : State :=
  s.take (s.controlWrite initiator commandWordOffset (commandWord code tag arg))

/-- LOAD_PLAN written to the command word (R157; its effect is R5's, after the parameter reads). -/
def execLoadPlan (initiator : BitVec 3) (tag : BitVec 8) (arg : BitVec 16) (s : State) :
    Host.Outcome State Fault Refusal := act (State.takeCommand initiator 1 tag arg) s

/-- OPEN_STACK written to the command word (R157; its effect is R103's). -/
def execOpenStack (initiator : BitVec 3) (tag : BitVec 8) (arg : BitVec 16) (s : State) :
    Host.Outcome State Fault Refusal := act (State.takeCommand initiator 2 tag arg) s

/-- RENDER_STACK written to the command word (R157; its effect is R108's). -/
def execRenderStack (initiator : BitVec 3) (tag : BitVec 8) (arg : BitVec 16) (s : State) :
    Host.Outcome State Fault Refusal := act (State.takeCommand initiator 3 tag arg) s

/-- DISCARD_STACK written to the command word (R157; its effect is R114's). -/
def execDiscardStack (initiator : BitVec 3) (tag : BitVec 8) (arg : BitVec 16) (s : State) :
    Host.Outcome State Fault Refusal := act (State.takeCommand initiator 4 tag arg) s

/-- OPEN_EXPOSURE written to the command word (R157; its effect is R24's). -/
def execOpenExposure (initiator : BitVec 3) (tag : BitVec 8) (arg : BitVec 16) (s : State) :
    Host.Outcome State Fault Refusal := act (State.takeCommand initiator 5 tag arg) s

/-- CLOSE_EXPOSURE written to the command word (R157; its effect is R27's). -/
def execCloseExposure (initiator : BitVec 3) (tag : BitVec 8) (arg : BitVec 16) (s : State) :
    Host.Outcome State Fault Refusal := act (State.takeCommand initiator 6 tag arg) s

/-- SET_WATCH written to the command word (R157; its effect is R122's). -/
def execSetWatch (initiator : BitVec 3) (tag : BitVec 8) (arg : BitVec 16) (s : State) :
    Host.Outcome State Fault Refusal := act (State.takeCommand initiator 7 tag arg) s

/-- SET_ENABLES written to the command word (R157; its effect is R162's). -/
def execSetEnables (initiator : BitVec 3) (tag : BitVec 8) (arg : BitVec 16) (s : State) :
    Host.Outcome State Fault Refusal := act (State.takeCommand initiator 8 tag arg) s

/-- REPORT written to the command word (R157; its effect is R163's). -/
def execReport (initiator : BitVec 3) (tag : BitVec 8) (arg : BitVec 16) (s : State) :
    Host.Outcome State Fault Refusal := act (State.takeCommand initiator 9 tag arg) s

/-- RESTART written to the command word (R157; its effect is R164's). -/
def execRestart (initiator : BitVec 3) (tag : BitVec 8) (arg : BitVec 16) (s : State) :
    Host.Outcome State Fault Refusal := act (State.takeCommand initiator 10 tag arg) s

/-- BAD_COMMAND (R157): a command word of any other code. -/
def execBadCommand (initiator : BitVec 3) (code tag : BitVec 8) (arg : BitVec 16) (s : State) :
    Host.Outcome State Fault Refusal := act (State.takeCommand initiator code tag arg) s

/-! ### Releases of holds (R129, R133, R136, R93, R153) -/

/-- INTAKE_HOLD_RELEASE (R133): with room in the intake buffer, the held raw write is classified afresh. -/
def execIntakeHoldRelease (s : State) : Host.Outcome State Fault Refusal :=
  act (fun s =>
    match s.current with
    | some { transfer := t, stage := .held .intakeFull } =>
      if s.intake.length < Config.intakeCapacity then { s with current := none }.route t else s
    | _ => s) s

/-- COMMAND_HOLD_RELEASE (R136): with the engine IDLE, the held transfer is forwarded. -/
def execCommandHoldRelease (s : State) : Host.Outcome State Fault Refusal :=
  act (fun s =>
    match s.current with
    | some { transfer := t, stage := .held .command } => if s.executing then s else s.forward t
    | _ => s) s

/-- PLACEMENT_HOLD_RELEASE (R93, R139): with every noted entry gone, the held read is forwarded. -/
def execPlacementHoldRelease (s : State) : Host.Outcome State Fault Refusal :=
  act (fun s =>
    match s.current with
    | some { transfer := t, stage := .held (.placement noted) } =>
      if noted.any fun tag => (s.entry? tag).isSome then s else s.handOn t
    | _ => s) s

/-- COPY_HOLD_RELEASE (R153, R139): with every noted copy terminated, the held transfer is forwarded. -/
def execCopyHoldRelease (s : State) : Host.Outcome State Fault Refusal :=
  act (fun s =>
    match s.current with
    | some { transfer := t, stage := .held (.copy noted) } =>
      if noted.any s.copyUnwritten then s else s.handOn t
    | _ => s) s

/-! ### The relay (R131, R141, R152) -/

/-- The answer the C-port relays: memory's termination, with the data of a read (R131) and, as the model reads R140, of an
ACKNOWLEDGE that the part does not answer, whose data memory's termination brings; a write's DONE carries the data 0
(log entry 16). -/
def relayed (t : Transfer) : Termination → Answer
  | .done d => .done (if t.isWrite then 0 else d)
  | .fault => .fault

/-- The lock ends with this termination: any of a LOCKED_LAST write, a FAULT of a LOCKED read (R141, R152). -/
def endsLock (t : Transfer) (result : Termination) : Bool :=
  t.isLockedLast || (t.isLockedRead && result == .fault)

/-- FORWARD_TERMINATION (R131). -/
def execForwardTermination (result : Termination) (s : State) : Host.Outcome State Fault Refusal :=
  act (fun s =>
    match s.current, s.inFlightFor .forward with
    | some { transfer := t, stage := .forwarding }, true =>
      let s := (s.land fun f => f.owner == .forward).answer t (relayed t result)
      if endsLock t result then s.endLock else s
    | _, _ => s) s

end Sys2Proof.Machine
end

