-- ==== Sys2Proof/Machine/Reset.lean ====
section
/-! DEFINITION. The reset pin (R143, R155, R156, R175). -/

namespace Sys2Proof.Machine

/-- The ports at the assertion of RESET (R143, R155): the current transfer is abandoned without a termination, the lock
record becomes absent, every transfer in flight and every presented transfer is dropped (`State.presented`), and the
arbiter takes its reset values. -/
def State.assertReset (s : State) : State :=
  { s with
    resetAsserted := true, current := none, lock := none, inFlight := [], placePresented := none, turn := .forward
    sweepWait := 0, lockState := .free, initialLead := false }

/-- RESET_ASSERT (R143, R155). RESET already asserted stays so. -/
def execResetAssert (s : State) : Host.Outcome State Fault Refusal :=
  .next (if s.resetAsserted then s else s.assertReset)

/-- RESET_RELEASE (R175): the straps are sampled, every block takes its pin-reset value, and the initial rewrite starts.
RESET not asserted cannot be released. -/
def execResetRelease (base level : BitVec 3) (s : State) : Host.Outcome State Fault Refusal :=
  .next (if s.resetAsserted then { State.released base level with answers := s.answers, pending := s.pending } else s)

end Sys2Proof.Machine
end

