-- ==== Sys2Proof/Machine/Dispatch.lean ====
section
/-! DEFINITION. The dispatch of a command to its meaning: one arm a row of spec/opcode_table.json, in the table's
order. -/

namespace Sys2Proof.Machine

def exec (i : Instr) (s : State) : Host.Outcome State Fault Refusal :=
  match i with
  | .resetAssert => Sys2Proof.Machine.execResetAssert s
  | .resetRelease base level => Sys2Proof.Machine.execResetRelease base level s
  | .cameraTransfer t => Sys2Proof.Machine.execCameraTransfer t s
  | .rawWrite initiator addr size data => Sys2Proof.Machine.execRawWrite initiator addr size data s
  | .intakeHoldRelease => Sys2Proof.Machine.execIntakeHoldRelease s
  | .commandHoldRelease => Sys2Proof.Machine.execCommandHoldRelease s
  | .placementHoldRelease => Sys2Proof.Machine.execPlacementHoldRelease s
  | .copyHoldRelease => Sys2Proof.Machine.execCopyHoldRelease s
  | .forwardTermination result => Sys2Proof.Machine.execForwardTermination result s
  | .acknowledgeTransfer initiator level => Sys2Proof.Machine.execAcknowledgeTransfer initiator level s
  | .ackClearFlags initiator select => Sys2Proof.Machine.execAckClearFlags initiator select s
  | .ackClearCounters initiator select => Sys2Proof.Machine.execAckClearCounters initiator select s
  | .loadPlan initiator tag arg => Sys2Proof.Machine.execLoadPlan initiator tag arg s
  | .openStack initiator tag arg => Sys2Proof.Machine.execOpenStack initiator tag arg s
  | .renderStack initiator tag arg => Sys2Proof.Machine.execRenderStack initiator tag arg s
  | .discardStack initiator tag arg => Sys2Proof.Machine.execDiscardStack initiator tag arg s
  | .openExposure initiator tag arg => Sys2Proof.Machine.execOpenExposure initiator tag arg s
  | .closeExposure initiator tag arg => Sys2Proof.Machine.execCloseExposure initiator tag arg s
  | .setWatch initiator tag arg => Sys2Proof.Machine.execSetWatch initiator tag arg s
  | .setEnables initiator tag arg => Sys2Proof.Machine.execSetEnables initiator tag arg s
  | .report initiator tag arg => Sys2Proof.Machine.execReport initiator tag arg s
  | .restart initiator tag arg => Sys2Proof.Machine.execRestart initiator tag arg s
  | .badCommand initiator code tag arg => Sys2Proof.Machine.execBadCommand initiator code tag arg s
  | .parameterReadDone result => Sys2Proof.Machine.execParameterReadDone result s
  | .planCheckReadDone result => Sys2Proof.Machine.execPlanCheckReadDone result s
  | .planInstallReadDone result => Sys2Proof.Machine.execPlanInstallReadDone result s
  | .restartEnd => Sys2Proof.Machine.execRestartEnd s
  | .stallTimerExpiry id => Sys2Proof.Machine.execStallTimerExpiry id s
  | .arbiterGrant => Sys2Proof.Machine.execArbiterGrant s
  | .keepRawCopyDone slot result => Sys2Proof.Machine.execKeepRawCopyDone slot result s
  | .flatReadDone slot addr result => Sys2Proof.Machine.execFlatReadDone slot addr result s
  | .calibratePixel => Sys2Proof.Machine.execCalibratePixel s
  | .placementEntryStart => Sys2Proof.Machine.execPlacementEntryStart s
  | .placementReadDone entry result => Sys2Proof.Machine.execPlacementReadDone entry result s
  | .placementWriteDone entry result => Sys2Proof.Machine.execPlacementWriteDone entry result s
  | .clearWriteDone result => Sys2Proof.Machine.execClearWriteDone result s
  | .renderReadDone result => Sys2Proof.Machine.execRenderReadDone result s
  | .renderWriteDone result => Sys2Proof.Machine.execRenderWriteDone result s
  | .statusWriteDone result => Sys2Proof.Machine.execStatusWriteDone result s

end Sys2Proof.Machine
end

