-- ==== Sys2Proof/Safety.lean ====
section
/-! DEFINITION. The terms the statements use: when the part runs, what a take of a transfer meets, what a step leaves of
the flags and of the status rewrite, and the invariants that every step keeps. Where a condition here rules out states
that no run reaches, it is an invariant below, and that every step keeps it is a statement of its own. -/

namespace Sys2Proof.Machine

/-! ### Between two steps -/

/-- Nothing of a step is left undone: its rewrite requests have been taken, and the attention line follows the flags and
the enables (R167, R172). -/
abbrev State.Settled (s : State) : Prop :=
  s.requested = false ∧ s.retirements = 0 ∧ s.attn = attention s.flags s.enables

/-- RESET is released, between two steps. -/
abbrev State.Running (s : State) : Prop := s.resetAsserted = false ∧ s.Settled

/-- The C-port has no current transfer and no lock record, so that it takes the next transfer (R129). -/
abbrev State.PortFree (s : State) : Prop := s.current = none ∧ s.lock = none

/-- The transfer touches nothing that conditions 3 to 7 of R130 name. -/
abbrev State.Ordinary (s : State) (t : Transfer) : Prop :=
  s.windowOf t = none ∧ s.cellRegionOf t = none ∧ s.outputRegionOf t = none ∧ s.inControlLine t = false
    ∧ s.inTables t = false

/-- The command-word line lies in no raw window and in no region of a stack, as the checks of LOAD_PLAN and OPEN_STACK
ensure (R4, R102, R130), and no unwritten copy overlaps a write of its word at `offset` (R153). -/
abbrev State.ControlLineClear (s : State) (t : Transfer) : Prop :=
  s.windowOf t = none ∧ s.cellRegionOf t = none ∧ s.outputRegionOf t = none ∧ s.copiesNoted t = []

/-! ### What a step leaves -/

/-- The status rewrite after a step that made `n` requests (R172, R164): with one in progress, or while a RESTART drains,
the mark is set; otherwise the first request starts a rewrite, and a second sets the mark. That the requests of a step
count as one, but for those of its retirements, is the model's choice (log entry 4). `u` is the state reached. -/
abbrev RewritesAfter (n : Nat) (s u : State) : Prop :=
  u.requested = false ∧ u.retirements = 0
    ∧ (u.rewriteCount, u.rewrite, u.mark)
      = if n = 0 then (s.rewriteCount, s.rewrite, s.mark)
        else if s.rewrite.isSome ∨ u.restartDraining then (s.rewriteCount, s.rewrite, true)
        else (s.rewriteCount + 1, some 0, s.mark || decide (2 ≤ n))

/-- The status rewrite after a step that requested one (`wanted`) or not, with at most one retirement (R172, R164; log
entry 4). -/
abbrev RewriteAfter (wanted : Bool) (s u : State) : Prop := RewritesAfter (if wanted then 1 else 0) s u

/-- The flags after the setting events of some flags, with the attention line following (R166, R167). -/
abbrev FlagsSet (fs : List Flag) (s u : State) : Prop :=
  u.flags = fs.foldl (fun w f => w ||| f.mask) s.flags ∧ u.attn = attention u.flags u.enables

/-- Some flag of the list was clear, so that its setting is a flag change (R166). -/
abbrev State.someClear (s : State) (fs : List Flag) : Bool := fs.any fun f => !s.flagSet f

/-- The counters after some have risen by one (R170). -/
abbrev CountersRaised (cs : List Counter) (s u : State) : Prop :=
  ∀ c, u.counter c = if c ∈ cs then saturatingSucc (s.counter c) else s.counter c

/-- A transfer refused with a flag and a counter (R132, R137): FAULT is given, and the part is otherwise unchanged. -/
abbrev RefusedWith (f : Flag) (c : Counter) (t : Transfer) (s u : State) : Prop :=
  u = { s with
    current := none, answers := (t, .fault) :: s.answers, flags := u.flags, attn := u.attn, counters := u.counters
    rewrite := u.rewrite, rewriteCount := u.rewriteCount, mark := u.mark }
    ∧ FlagsSet [f] s u ∧ CountersRaised [c] s u ∧ RewriteAfter (s.someClear [f]) s u

/-- A transfer has been handed to the forward class (R131): it is presented unchanged. A LOCKED read also opens its lock
(R141): with transfers in flight it waits while the lock state is DRAINING; with none, it is granted at once and the lock
state is HELD (R151), but while the initial leading copy is due or a RESTART drains, when it waits, the lock state DRAINING
(R155; that the leading copy goes first is the model's choice, log entry 8). -/
abbrev HandedOn (t : Transfer) (s u : State) : Prop :=
  let v := { s with current := some { transfer := t, stage := .forwarding } }
  let lock : LockRecord := { initiator := t.initiator, line := lineOf t.start }
  (t.op ≠ .lockedRead → u = v)
    ∧ (t.op = .lockedRead → s.inFlight ≠ [] ∨ s.initialLead = true ∨ s.restartDraining = true →
      u = { v with lock := some lock, lockState := .draining })
    ∧ (t.op = .lockedRead → s.inFlight = [] → s.initialLead = false → s.restartDraining = false →
      u = { v with
        lock := some lock, lockState := .held
        inFlight := [{ owner := .forward, transfer := forwarded t, live := true }] })

/-- A transfer is handed on at once, or held behind the unwritten copies it meets (R131, R153). `u` is the state reached. -/
abbrev ForwardedOrHeld (t : Transfer) (s u : State) : Prop :=
  (s.copiesNoted t = [] → HandedOn t s u)
    ∧ (s.copiesNoted t ≠ [] → u = { s with current := some { transfer := t, stage := .held (.copy (s.copiesNoted t)) } })

/-- A captured command has ended (R161) with nothing but its result recorded: the last result, COMMAND_DONE, the engine
IDLE, and `n` rewrites requested by its step. `v` is the state with the command's own effect made. -/
abbrev EndedAsking (n : Nat) (code tag : BitVec 8) (result : ResultCode) (detail : Nat) (v u : State) : Prop :=
  u = { v with
    last := { tag := tag, code := code, result := result, detail := detail }, engine := .idle, flags := u.flags
    attn := u.attn, rewrite := u.rewrite, rewriteCount := u.rewriteCount, mark := u.mark }
    ∧ FlagsSet [.commandDone] v u ∧ RewritesAfter n v u

/-- A captured command has ended (R161), with one rewrite requested. -/
abbrev EndedWith (code tag : BitVec 8) (result : ResultCode) (detail : Nat) (v u : State) : Prop :=
  EndedAsking 1 code tag result detail v u

/-- Memory has terminated the oldest transfer of the command engine. -/
abbrev State.commandLanded (s : State) : State := s.land fun f => f.owner == .command

/-- The engine holds command `c` with the first line of its parameter block read, and the second is in flight. -/
abbrev State.Awaits (s : State) (c : CurrentCommand) (first : Line) : Prop :=
  s.engine = .executing c (.params (some first)) ∧ s.inFlightFor .command = true

/-- A memory fault of the part's own, with nothing else changed (R154). -/
abbrev FaultCounted (v u : State) : Prop :=
  u = { v with
    flags := u.flags, attn := u.attn, counters := u.counters, rewrite := u.rewrite, rewriteCount := u.rewriteCount
    mark := u.mark }
    ∧ FlagsSet [.memoryFault] v u ∧ CountersRaised [.memoryFaults] v u ∧ RewriteAfter (v.someClear [.memoryFault]) v u

/-- An exposure as one pixel is taken for it: it is READING, its stall timer armed or restarted if it has a stall timeout,
and a data pixel is counted as taken and outstanding (R25, R28, R30). -/
abbrev Exposure.withPixel (cls : PixelClass) (e : Exposure) : Exposure :=
  let n := match cls with
    | .data _ _ => 1
    | _ => 0
  { e with
    state := if e.state = .queued then .reading else e.state
    timer := if (e.state = .queued ∨ e.state = .reading) ∧ e.stallTimeout ≠ 0 then some e.stallTimeout else e.timer
    outstanding := e.outstanding + n, tallies := { e.tallies with taken := e.tallies.taken + n } }

/-- An exposure cut by a close or a stall expiry (R26, R27, R29): every segment ended, DRAINING with outcome CUT, its timer
absent, and the reason kept if none was set. -/
abbrev Exposure.cutFor (reason : CutReason) (e : Exposure) : Exposure :=
  { e with
    ended := e.segSet, cutReason := some (e.cutReason.getD reason), state := .draining
    outcome := some { cut := true, degraded := false }, timer := none }

/-- An exposure as one of its segments ends it, by completion (no reason) or otherwise (R25, R26): the segment joins its ended
set and a reason is kept if none was set; with every segment ended it is DRAINING, with outcome COMPLETE or CUT and its timer
absent (R28). -/
abbrev Exposure.endedBy (i : SegIdx) (reason : Option CutReason) (e : Exposure) : Exposure :=
  let cut := e.cutReason.or reason
  let joined := { e with ended := e.ended ||| segMask i, cutReason := cut }
  if e.ended ||| segMask i = e.segSet then
    { joined with state := .draining, outcome := some { cut := cut.isSome, degraded := false }, timer := none }
  else joined

/-- The bytes of a record of the status block, as one number (R176): each field, given as its offset, its size and its value,
and 0 in every other byte below `size`. -/
abbrev LaidOut (n size : Nat) (fields : List (Nat × Nat × Nat)) : Prop :=
  (∀ f ∈ fields, bytesAt n f.1 f.2.1 = f.2.2 % 2 ^ (8 * f.2.1))
    ∧ ∀ k, k < size → (∀ f ∈ fields, ¬ (f.1 ≤ k ∧ k < f.1 + f.2.1)) → bytesAt n k 1 = 0

/-- The number in the `size` bytes at byte `off` of the 64 bytes that two lines hold, the first line the lower,
little-endian (R158, R176). -/
abbrev blockField (first second : Line) (off size : Nat) : Nat :=
  (first.toNat + 2 ^ 256 * second.toNat) / 2 ^ (8 * off) % 2 ^ (8 * size)

/-- The same as a signed number (R176). -/
abbrev blockSigned (first second : Line) (off size : Nat) : Int :=
  let n : Int := blockField first second off size
  if n < 2 ^ (8 * size - 1) then n else n - 2 ^ (8 * size)

/-- A segment record as its 64 bytes lay it out (R176). -/
abbrev RecordLaidOut (first second : Line) (r : SegRecord) : Prop :=
  let at_ := blockField first second
  let bit (j : Nat) : Bool := at_ 0x00 1 / 2 ^ j % 2 == 1
  r = { valid := bit 0, granularity := if bit 1 then .page else .byte, keepRaw := bit 2
        flatBase := if bit 3 then some (at_ 0x10 8) else none
        writer := if at_ 0x01 1 = 0xFF then .any else .only (at_ 0x01 1)
        orientation := at_ 0x02 1, k := at_ 0x03 1, rawLimit := at_ 0x04 4, rawBase := at_ 0x08 8
        prescan := at_ 0x18 2, W := at_ 0x1A 2, ov := at_ 0x1C 2, H := at_ 0x1E 2, K := at_ 0x20 2, S := at_ 0x22 2
        G := at_ 0x24 2, X0 := at_ 0x26 2, Y0 := at_ 0x28 2, biasSeed := at_ 0x2C 4 }

/-- The intake buffer has settled from `before` to `after` (R60, R66). In take order each cursor moves past the pixels that
need no decision, to the first data pixel taken for the exposure or past the last pixel; the cursors of slots behind one not
yet decided stay. Then slots leave from the head while the head is decided, has no copy WAITING and no flat line PENDING; a
slot waits for those before it (log entry 20). -/
abbrev IntakeSettles (before after : List IntakeSlot) : Prop :=
  let decides (px : SlotPixel) : Prop := px.taken = true ∧ ∃ row col, px.cls = .data row col
  let past (x : IntakeSlot) : Prop := x.pixels.length ≤ x.cursor
  let leaves (x : IntakeSlot) : Prop := past x ∧ x.copy ≠ .waiting ∧ ∀ f ∈ x.flats, f.status ≠ .pending
  ∃ gone : List IntakeSlot, (gone ++ after).length = before.length
    ∧ (∀ x ∈ gone, leaves x) ∧ (∀ x, after.head? = some x → ¬ leaves x)
    ∧ ∀ (i : Nat) (x y : IntakeSlot), before[i]? = some x → (gone ++ after)[i]? = some y →
      let reached := ∀ (j : Nat) (z : IntakeSlot), j < i → (gone ++ after)[j]? = some z → past z
      y = { x with cursor := y.cursor }
      ∧ (¬ reached → y.cursor = x.cursor)
      ∧ (reached → x.cursor ≤ y.cursor ∧ y.cursor ≤ max x.cursor x.pixels.length
        ∧ (∀ (n : Nat) (px : SlotPixel), x.cursor ≤ n → n < y.cursor → x.pixels[n]? = some px → ¬ decides px)
        ∧ ∀ px, x.pixels[y.cursor]? = some px → decides px)

/-- A progress record moved to an assignment (R39). -/
abbrev Progress.movedTo (next : Option Nat) (p : Progress) : Progress :=
  { p with state := (next.elim .idle .armed), count := 0 }

/-- The state after the exposure `id` is cut, before its test for DONE (R27, R29, R40): the progress records on it stand at
their next assignments. -/
abbrev State.withCut (id : Nat) (reason : CutReason) (s : State) : State :=
  let queue := s.queue.map fun e => if e.id = id then e.cutFor reason else e
  { s with
    queue := queue, requested := true
    progress := Vector.ofFn fun i : SegIdx =>
      if s.progress[i].state = .armed id ∨ s.progress[i].state = .reading id then
        s.progress[i].movedTo (nextAssignment i queue)
      else s.progress[i] }

/-- The row the sweep engine works on next after a row of a stack (R104): the other stack's cursor row if its sweep is in
progress, otherwise this stack's if its is. -/
abbrev State.nextRow (after : StackSlot) (u : State) : Option SweepWork :=
  let start (k : StackSlot) : SweepWork :=
    { slot := k, line := 0, step := if (u.stack k).state = .clearing then .clear else .renderRead0 }
  if (u.stack after.other).sweeping then some (start after.other)
  else if (u.stack after).sweeping then some (start after)
  else none

/-- The last line of a row of a sweep has been terminated (R105, R106, R109, R113): the cursor rises; below height a
rewrite is requested at multiples of 256; at height the sweep ends in state `ends`, with its flag. `fs` and `cs` are the
flags and counters of a fault of that termination, if any (R112). -/
abbrev RowCompleted (fs : List Flag) (cs : List Counter) (k : StackSlot) (ends : StackState) (f : Flag) (v u : State) :
    Prop :=
  let r := v.stack k
  let reached (x : StackRecord) : State :=
    { v.setStack k x with
      sweep := u.nextRow k, rewrite := u.rewrite, rewriteCount := u.rewriteCount, mark := u.mark, flags := u.flags
      attn := u.attn, counters := u.counters }
  CountersRaised cs v u
    ∧ (r.cursor + 1 < r.height →
      u = reached { r with cursor := r.cursor + 1 } ∧ FlagsSet fs v u
        ∧ RewriteAfter (v.someClear fs || (r.cursor + 1) % 256 == 0) v u)
    ∧ (r.height ≤ r.cursor + 1 →
      u = reached { r with cursor := r.cursor + 1, state := ends } ∧ FlagsSet (fs ++ [f]) v u ∧ RewriteAfter true v u)

/-! ### Invariants -/

/-- The lock state is NONE while the C-port has no lock record, and while it is HELD only transfers of the C-port are in
flight and no leading copy of an initial rewrite is due (R151, R152, R155). A lock record may outlive its lock state: at the
end of a RESTART (R165, log entry 8). -/
def State.LockAgrees (s : State) : Prop :=
  (s.lock = none → s.lockState = .free)
    ∧ (s.lockState = .held → s.initialLead = false ∧ ∀ f ∈ s.inFlight, f.owner = .forward)

/-- No buffer, queue, list or count exceeds its capacity (R22, R32, R60, R82, R147). -/
def State.WithinCapacity (s : State) : Prop :=
  s.queue.length ≤ Config.queueCapacity ∧ s.retired.length ≤ Config.retiredCapacity
    ∧ s.intake.length ≤ Config.intakeCapacity ∧ s.entries.length ≤ Config.placementCapacity
    ∧ s.sweepWait ≤ Config.sweepPatience

/-- The current exposure of a progress record (R33). -/
def ProgressState.exposure : ProgressState → Option Nat
  | .idle => none
  | .armed id => some id
  | .reading id => some id

/-- A queued exposure is in order: its ended segments are segments of its set, all of them exactly once it drains; with
nothing outstanding once it is DONE; and every data pixel taken is outstanding or has one fate (R21, R25, R30). -/
def Exposure.InOrder (e : Exposure) : Prop :=
  e.ended &&& e.segSet = e.ended ∧ (e.state = .draining ∨ e.state = .done ↔ e.ended = e.segSet)
    ∧ (e.state = .done → e.outstanding = 0) ∧ e.outstanding + e.tallies.decided = e.tallies.taken

/-- The command engine is between the begin and the end of a LOAD_PLAN's passes. -/
def Engine.loading : Engine → Bool
  | .executing _ (.planCheck _ _ _) | .executing _ (.planInstall _ _) => true
  | _ => false

/-- The ledger of the exposures: no id twice, every exposure in order, every retired record balanced (R31), every progress
record on the oldest queued exposure that names its segment and has not ended it (R39), and no exposure queued while a plan
is loaded (R5). -/
def State.LedgerBalances (s : State) : Prop :=
  (s.queue.map (·.id)).Nodup ∧ (∀ e ∈ s.queue, e.InOrder) ∧ (∀ r ∈ s.retired, r.tallies.decided = r.tallies.taken)
    ∧ (∀ i : SegIdx, s.progress[i].state.exposure = nextAssignment i s.queue)
    ∧ (s.engine.loading = true → s.queue = [])

/-- A stack's reference count is the number of queued exposures naming it; a stack with a nonzero one is OPEN (R100); and
the sweep engine works on a stack with a sweep in progress (R104). -/
def State.ReferencesAgree (s : State) : Prop :=
  (∀ k, (s.stack k).refCount = (s.queue.filter fun e => e.stackSlot = k).length)
    ∧ (∀ k, 0 < (s.stack k).refCount → (s.stack k).state = .openState)
    ∧ (∀ w, s.sweep = some w → (s.stack w.slot).sweeping = true)

/-- The placement engine has a transfer of this entry presented or in flight. -/
def State.placementUnderWay (s : State) (tag : Nat) : Prop :=
  s.placePresented = some tag ∨ ∃ f ∈ s.inFlight, f.owner = .placement tag ∧ f.live = true

/-- The placement queue keeps the order of a line (R84, R86): numbers rise in formation order, an entry that has started is
the oldest of its line, and no transfer is under way for an entry that waits or that is yet to be formed. -/
def State.PlacementInOrder (s : State) : Prop :=
  (s.entries.map (·.tag)).Pairwise (· < ·) ∧ (∀ e ∈ s.entries, e.tag < s.nextEntry)
    ∧ s.entries.Pairwise (fun a b => b.state ≠ .waiting → a.line ≠ b.line)
    ∧ (∀ tag, s.placementUnderWay tag → tag < s.nextEntry)
    ∧ (∀ e ∈ s.entries, s.placementUnderWay e.tag → e.state ≠ .waiting)

end Sys2Proof.Machine
end

