-- ==== Sys2Proof/Certificates/Slice0/Obligations.lean ====
section
/-! DEFINITION. The statements for the provers, in the order of OBLIGATIONS.json: the step and the pins, the camera-side
port, the progress unit and the bias estimator, calibration and placement, stacks and sweeps, the status block, the
arbiter, the command engine and its ten commands, and the invariants that every step keeps. A next state is given as the
old one with the fields that change; every field not named is unchanged. -/

open Sys2Proof Sys2Proof.Machine

/-! ### The step and the RESET pin -/

/-- One step runs the command at the front of the queue on the state with the queue's rest. With no command waiting, a
stall expiry that is due, the oldest exposure's, is taken as STALL_TIMER_EXPIRY takes it; with none due a step is one
millisecond: each present stall timer counts down by one, and at 0 its expiry is due. So no millisecond passes over an
expiry due (R28). Under RESET nothing moves. That the step is a millisecond, and which expiry goes first, is the model's
choice (log entry 3). -/
def Obligations.StepRunsTheQueue : Prop :=
  (∀ (c : Instr) (rest : List Instr) (s : State), s.pending = c :: rest → step s = exec c { s with pending := rest })
  ∧ (∀ s : State, s.pending = [] →
      let due (e : Exposure) : Prop := e.state = .reading ∧ e.timer = some 0
      (s.resetAsserted = true → step s = .next s)
      ∧ (s.resetAsserted = false → (∀ e ∈ s.queue, ¬ due e) →
        step s = .next { s with queue := s.queue.map fun e => { e with timer := e.timer.map fun n => n - 1 } })
      ∧ (∀ (id : BitVec 16) (e : Exposure) (older newer : List Exposure), s.resetAsserted = false →
        (s.queue.map (·.id)).Nodup → s.queue = older ++ e :: newer → e.id = id.toNat → due e → (∀ x ∈ older, ¬ due x) →
        step s = exec (.stallTimerExpiry id) s))

/-- Every command answers a next state, and none touches the queue of waiting commands. Both are the model's choice: a step
whose condition does not hold answers a next state too (log entry 6), and the queue of commands is the model's own (log
entry 19). -/
def Obligations.EveryCommandAnswersAndKeepsTheQueue : Prop :=
  ∀ (c : Instr) (s : State), ∃ t, exec c s = .next t ∧ t.pending = s.pending

/-- The assertion of RESET (R143, R155): the current transfer and the lock record go, every transfer in flight is dropped,
and the arbiter takes its reset values; blocks not named keep their values until the release (log entry 15). While RESET
is asserted, no requester presents a transfer, and no command but its release moves anything. -/
def Obligations.ResetAssertStopsThePorts : Prop :=
  (∀ s : State, s.resetAsserted = false →
      exec .resetAssert s = .next { s with
        resetAsserted := true, current := none, lock := none, inFlight := [], placePresented := none, turn := .forward
        sweepWait := 0, lockState := .free, initialLead := false })
  ∧ (∀ s : State, s.resetAsserted = true →
      s.forwardRequest = none ∧ s.copyRequest = none ∧ s.statusRequest = none ∧ s.commandRequest = none
        ∧ s.placementRequest = none ∧ s.flatGrant = none ∧ s.sweepRequest = none)
  ∧ (∀ (c : Instr) (s : State), s.resetAsserted = true → (∀ b l, c ≠ .resetRelease b l) → exec c s = .next s)

/-- The release of RESET (R175): the straps are sampled, every block holds its pin-reset value (R11, R46, R58, R75, R95,
R117, R127, R143, R147), and the initial rewrite has started as count 1, its leading copy due as the port's first grant. -/
def Obligations.ResetReleaseGivesEveryBlockItsResetValue : Prop :=
  ∀ (b l : BitVec 3) (s : State), s.resetAsserted = true →
    ∃ u, exec (.resetRelease b l) s = .next u
      ∧ u.resetAsserted = false ∧ u.base = b ∧ u.level = l
      ∧ u.engine = .idle ∧ u.last = { tag := 0, code := 0, result := .none, detail := 0 }
      ∧ u.flags = 0 ∧ u.enables = 0 ∧ u.attn = false ∧ (∀ c, u.counter c = 0)
      ∧ u.rewriteCount = 1 ∧ u.rewrite = some 0 ∧ u.mark = false ∧ u.requested = false ∧ u.retirements = 0
      ∧ u.initialLead = true
      ∧ (∀ i : SegIdx, u.segs[i] = { u.segs[i] with
          valid := false, rawBase := 0, rawLimit := 0, prescan := 0, W := 0, ov := 0, H := 0, K := 0, keepRaw := false
          S := 0, G := 0, biasSeed := 0, k := 0, flatBase := none, X0 := 0, Y0 := 0, orientation := 0 })
      ∧ (∀ i : SegIdx, u.progress[i] = { state := .idle, count := 0, B := 0, acc := none })
      ∧ u.queue = [] ∧ u.retired = [] ∧ u.intake = [] ∧ u.entries = [] ∧ u.placePresented = none
      ∧ (∀ k, u.stack k = { state := .empty, cellBase := 0, outputBase := 0, width := 0, height := 0, Nrej := 0
                            cursor := 0, refCount := 0 })
      ∧ u.sweep = none
      ∧ (∀ i : Fin 4, u.watch[i] = { enabled := false, stackSlot := .zero, x := 0, y := 0, threshold := 0, hit := none
                                     hitCount := 0 })
      ∧ u.current = none ∧ u.lock = none
      ∧ u.turn = .forward ∧ u.sweepWait = 0 ∧ u.lockState = .free ∧ u.inFlight = []

/-! ### The camera-side port -/

/-- A PLAIN transfer or a LOCKED read outside every region of the part, or an ACKNOWLEDGE it does not answer, is handed on
unchanged and at once when no unwritten copy is noted, a LOCKED read opening its lock; otherwise it is held behind the
copies noted (R130, R131, R140, R141, R151, R153). Noted are the copies waiting in intake or in flight whose bytes overlap
a read or a PLAIN write, or the line of a LOCKED read. The regions of R130 are met by a byte of the transfer, an
ACKNOWLEDGE having none: the raw window of a valid record (R2, R12), of several the lowest index's by the model's choice
(log entry 21); the cell and output regions of a stack that is not EMPTY (R98); and, at the strapped base (R156), the
command-word line (R135) and the parameter block or the plan table (R136). That a LOCKED read waits in DRAINING while the
initial leading copy is due, with nothing in flight too, is the model's choice (log entry 8). -/
def Obligations.OrdinaryTransferIsForwardedOrHeldBehindCopies : Prop :=
  (∀ (t : Transfer) (s : State), s.Running → s.PortFree → t.aligned = true →
      (((t.op = .read ∨ t.op = .lockedRead ∨ ∃ d, t.op = .write d) ∧ s.Ordinary t)
        ∨ ∃ level, t.op = .acknowledge level ∧ s.answersLevel level = false) →
      (s.copiesNoted t = [] → ∃ u, exec (.cameraTransfer t) s = .next u ∧ HandedOn t s u)
      ∧ (s.copiesNoted t ≠ [] →
        exec (.cameraTransfer t) s
          = .next { s with current := some { transfer := t, stage := .held (.copy (s.copiesNoted t)) } }))
  ∧ (∀ (t : Transfer) (s : State) (slot a len : Nat),
      (a, len) = (if t.op = .lockedRead then (lineOf t.start, 32) else (t.start, t.len)) →
      (slot ∈ s.copiesNoted t ↔
        (t.op = .read ∨ t.op = .lockedRead ∨ ∃ d, t.op = .write d)
        ∧ ((∃ sl ∈ s.intake, sl.tag = slot ∧ sl.copy = .waiting ∧ overlaps sl.addr sl.size.bytes a len = true)
          ∨ ∃ f ∈ s.inFlight, f.owner = .copy slot ∧ overlaps f.transfer.addr f.transfer.size.bytes a len = true)))
  ∧ (∀ (t : Transfer) (s : State),
      let bytes : Nat := match t.size with
        | .byte => 1
        | .half => 2
        | .word => 4
        | .line => 32
      let meets (base size : Nat) : Prop :=
        (∀ level, t.op ≠ .acknowledge level)
          ∧ ∃ x, t.addr.toNat ≤ x ∧ x < t.addr.toNat + bytes ∧ base ≤ x ∧ x < base + size
      let window (i : SegIdx) : Prop :=
        let r := s.segs[i]
        r.valid = true ∧ meets r.rawBase (if r.granularity = .byte then r.rawLimit + 1 else (r.rawLimit + 1) * 4096)
      let region (base : StackRecord → Nat) (perPixel : Nat) (k : StackSlot) : Prop :=
        (s.stack k).state ≠ .empty ∧ meets (base (s.stack k)) ((s.stack k).width * (s.stack k).height * perPixel)
      let control := s.base.toNat * 0x08000000
      (∀ i, s.windowOf t = some i ↔ window i ∧ ∀ j : SegIdx, j < i → ¬ window j)
      ∧ (∀ k, s.cellRegionOf t = some k
        ↔ region (·.cellBase) 8 k ∧ (k = .one → ¬ region (·.cellBase) 8 .zero))
      ∧ (∀ k, s.outputRegionOf t = some k
        ↔ region (·.outputBase) 4 k ∧ (k = .one → ¬ region (·.outputBase) 4 .zero))
      ∧ (s.inControlLine t = true ↔ meets control 32)
      ∧ (s.inTables t = true ↔ meets (control + 0x0040) 0x0040 ∨ meets (control + 0x1000) 0x2000))

/-- Transfers during a locked sequence. While the lock record is present, a transfer of another initiator is given RETRY
at its take and has no effect; an ACKNOWLEDGE that the part answers is answered as usual (R142). Of the locking initiator
(R141), a write of the sequence in the locked line is forwarded; one that meets a raw window is malformed and one that
meets a stack region it may not is blocked, ending the lock; any other transfer is given FAULT and ends the lock; and
without a lock a locked write is given FAULT. -/
def Obligations.TransfersDuringALock : Prop :=
  (∀ (t : Transfer) (l : LockRecord) (s : State), s.Running → s.current = none → t.aligned = true →
      s.lock = some l → t.initiator ≠ l.initiator →
      ((∀ level, t.op = .acknowledge level → s.answersLevel level = false) →
        exec (.cameraTransfer t) s = .next { s with answers := (t, .retry) :: s.answers })
      ∧ (∀ level, t.op = .acknowledge level → s.answersLevel level = true →
        exec (.cameraTransfer t) s = .next { s with answers := (t, .done (BitVec.ofNat 256 s.cause)) :: s.answers }))
  ∧ (∀ (t : Transfer) (s : State), s.Running → s.current = none → t.aligned = true →
      (∀ l : LockRecord, s.lock = some l → t.initiator = l.initiator →
        let inSequence := t.isLockedWrite = true ∧ lineOf t.start = l.line
        let abandoned : State := { s with lock := none, lockState := .free }
        (inSequence → s.windowOf t = none → s.cellRegionOf t = none →
            (∀ k, s.outputRegionOf t = some k → (s.stack k).state ≠ .rendering) →
          exec (.cameraTransfer t) s = .next { s with current := some { transfer := t, stage := .forwarding } })
        ∧ (inSequence → (s.windowOf t).isSome →
          ∃ u, exec (.cameraTransfer t) s = .next u ∧ RefusedWith .malformedRaw .malformedRaw t abandoned u)
        ∧ (inSequence → s.windowOf t = none →
            ((s.cellRegionOf t).isSome ∨ ∃ k, s.outputRegionOf t = some k ∧ (s.stack k).state = .rendering) →
          ∃ u, exec (.cameraTransfer t) s = .next u ∧ RefusedWith .blockedWrite .blockedWrites t abandoned u)
        ∧ (¬ inSequence → (∀ level, t.op = .acknowledge level → s.answersLevel level = false) →
          exec (.cameraTransfer t) s = .next { abandoned with current := none, answers := (t, .fault) :: s.answers }))
      ∧ (s.lock = none → t.isLockedWrite = true →
        exec (.cameraTransfer t) s = .next { s with current := none, answers := (t, .fault) :: s.answers }))

/-- A transfer that touches the raw window of a valid segment is decided by the first row of R132 that applies: a PLAIN
read is forwarded, behind the unwritten copies it overlaps (R153); a LOCKED read, a BYTE write, and a write of another
initiator than the segment's writer are malformed; a LINE write that leaves the window is told SPLIT; and any other PLAIN
write is a raw write, taken with DONE if the intake buffer has room and held otherwise (R133). The data 0 of that DONE is
the model's choice (log entry 16), and so is that a HALF or WORD write straddling an end of a window installed unchecked
is a raw write (log entry 21). A writer of ANY lets every initiator write, and any other writer the one it names. -/
def Obligations.RawWindowTransfersAreDecidedInOrder : Prop :=
  ∀ (t : Transfer) (i : SegIdx) (s : State), s.Running → s.PortFree → t.aligned = true → s.windowOf t = some i →
    let r := s.segs[i]
    let straddles := t.size = .line ∧ t.inside r.rawBase r.windowSize = false
    (t.inside r.rawBase r.windowSize = true ↔ r.rawBase ≤ t.start ∧ t.start + t.len ≤ r.rawBase + r.windowSize)
    ∧ (r.writer.allows t.initiator = true ↔ r.writer = .any ∨ r.writer = .only t.initiator.toNat)
    ∧ (t.op = .read → s.copiesNoted t = [] →
      exec (.cameraTransfer t) s = .next { s with current := some { transfer := t, stage := .forwarding } })
    ∧ (t.op = .read → s.copiesNoted t ≠ [] →
      exec (.cameraTransfer t) s
        = .next { s with current := some { transfer := t, stage := .held (.copy (s.copiesNoted t)) } })
    ∧ (t.op = .lockedRead → ∃ u, exec (.cameraTransfer t) s = .next u ∧ RefusedWith .malformedRaw .malformedRaw t s u)
    ∧ (∀ d, t.op = .write d →
      (t.size = .byte → ∃ u, exec (.cameraTransfer t) s = .next u ∧ RefusedWith .malformedRaw .malformedRaw t s u)
      ∧ (straddles → exec (.cameraTransfer t) s = .next { s with answers := (t, .split) :: s.answers })
      ∧ (t.size ≠ .byte → ¬ straddles → r.writer.allows t.initiator = false →
        ∃ u, exec (.cameraTransfer t) s = .next u ∧ RefusedWith .malformedRaw .malformedRaw t s u)
      ∧ (t.size ≠ .byte → ¬ straddles → r.writer.allows t.initiator = true →
        (s.intake.length < 8 → ∃ u, exec (.cameraTransfer t) s = .next u ∧ u.answers = (t, .done 0) :: s.answers)
        ∧ (8 ≤ s.intake.length →
          exec (.cameraTransfer t) s = .next { s with current := some { transfer := t, stage := .held .intakeFull } })))

/-- A raw write taken into intake (R133): its pixels are visited in ascending address order (R34, R50), an overrun pixel
being an orphan, any other offered to the segment's progress record and an overscan pixel then gathered; so the exposures,
the segment's own progress record, the flags and the counters are those the visit leaves. A slot behind the slots before
it holds the pixels with their classes and whether each was taken, the exposure they were taken for, and the record and
the bias estimate as they stood before the take (R13, R55, R59); its flat lines are the distinct ones its on-frame data
pixels need, in ascending order, each PENDING (R62). DONE is given at once, with the data 0 (log entry 16). Slots at the
head that may leave leave (R60, R66; log entry 20). Of the progress records only the segment's own may change, of the
stacks only the reference counts, by retirements. -/
def Obligations.RawWriteIsTakenIntoIntake : Prop :=
  ∀ (initiator : BitVec 3) (addr : BitVec 40) (size : Size) (data : Line) (i : SegIdx) (s : State),
    let t : Transfer := { initiator := initiator, addr := addr, size := size, op := .write data }
    let r := s.segs[i]
    let js := List.range (pixelsIn size)
    let index (j : Nat) : Nat := (addr.toNat - r.rawBase) / 2 + j
    let visit (a : State × List (Option Nat)) (j : Nat) : State × List (Option Nat) :=
      let o := a.1.offer i (index j) (classOf r (index j))
      match classOf r (index j) with
      | .overrun => (a.1.orphan, a.2 ++ [none])
      | .overscan row => (o.1.gather i row (rawAt data j), a.2 ++ [o.2])
      | _ => (o.1, a.2 ++ [o.2])
    let v := js.foldl visit (s, [])
    s.Running → s.PortFree → t.aligned = true → s.windowOf t = some i → size ≠ .byte →
    ¬ (size = .line ∧ t.inside r.rawBase r.windowSize = false) → r.writer.allows initiator = true →
    s.intake.length < 8 →
    ∃ (u : State) (slot : IntakeSlot), exec (.rawWrite initiator addr size data) s = .next u
      ∧ slot.tag = s.nextSlot ∧ slot.seg = i ∧ slot.addr = addr.toNat ∧ slot.size = size ∧ slot.record = r
      ∧ slot.B = s.progress[i].B ∧ slot.cursor = 0
      ∧ slot.copy = (if r.keepRaw then .waiting else .none)
      ∧ slot.pixels.map (·.raw) = js.map (rawAt data)
      ∧ slot.pixels.map (·.cls) = js.map (fun j => classOf r (index j))
      ∧ slot.pixels.map (·.taken) = v.2.map (·.isSome)
      ∧ slot.exposure = v.2.findSome? id
      ∧ (∀ f ∈ slot.flats, f.status = .pending)
      ∧ (slot.flats.map (·.addr)).Pairwise (· < ·) ∧ slot.flats.length ≤ 2
      ∧ (∀ a, a ∈ slot.flats.map (·.addr) ↔
        ∃ (e : Exposure) (px : SlotPixel) (row col fb : Nat), slot.exposure.bind v.1.exposure? = some e ∧ px ∈ slot.pixels
          ∧ px.taken = true ∧ px.cls = .data row col ∧ r.flatBase = some fb
          ∧ onFrame (s.stack e.stackSlot) (mosaicOf r e.dx e.dy row col) = true ∧ a = lineOf (flatAddress fb r row col))
      ∧ IntakeSettles (s.intake ++ [slot]) u.intake
      ∧ u = State.settleRequests { v.1 with
          answers := (t, .done 0) :: s.answers, nextSlot := s.nextSlot + 1, intake := u.intake }
      ∧ u = { s with
          answers := u.answers, nextSlot := u.nextSlot, intake := u.intake, progress := u.progress
          queue := u.queue, retired := u.retired, flags := u.flags, attn := u.attn, counters := u.counters
          rewrite := u.rewrite, rewriteCount := u.rewriteCount, mark := u.mark
          stack0 := { s.stack0 with refCount := u.stack0.refCount }
          stack1 := { s.stack1 with refCount := u.stack1.refCount } }
      ∧ (∀ j : SegIdx, j ≠ i → u.progress[j] = s.progress[j])

/-- Every pixel of a raw write into an IDLE segment is an orphan (R35, R41): the orphan counter rises once a pixel, and no
exposure, retired record, stack or position count changes. -/
def Obligations.RawWriteIntoIdleSegmentIsAllOrphans : Prop :=
  ∀ (initiator : BitVec 3) (addr : BitVec 40) (size : Size) (data : Line) (i : SegIdx) (s : State),
    let t : Transfer := { initiator := initiator, addr := addr, size := size, op := .write data }
    let r := s.segs[i]
    s.Running → s.PortFree → t.aligned = true → s.windowOf t = some i → size ≠ .byte →
    ¬ (size = .line ∧ t.inside r.rawBase r.windowSize = false) → r.writer.allows initiator = true →
    s.intake.length < 8 → s.progress[i].state = .idle →
    ∃ u, exec (.rawWrite initiator addr size data) s = .next u
      ∧ u.queue = s.queue ∧ u.retired = s.retired ∧ (∀ k, u.stack k = s.stack k)
      ∧ u.progress[i].state = .idle ∧ u.progress[i].count = s.progress[i].count
      ∧ u.flagSet .orphanPixels = true
      ∧ u.counter .orphanPixels = (saturatingSucc)^[pixelsIn size] (s.counter .orphanPixels)

/-- Transfers of a stack that is not EMPTY. In its cell region (R137) a PLAIN write or a LOCKED read is blocked; a PLAIN
read is forwarded below a clear cursor and told RETRY from it on, is held for the placement entries of its line while the
stack is OPEN, and is otherwise forwarded. In its output region (R138), while it is RENDERING, a PLAIN write or a LOCKED
read is blocked and a PLAIN read from the cursor on is told RETRY; every other PLAIN transfer or LOCKED read is forwarded.
What is forwarded waits first for the unwritten copies it meets (R153). That a LOCKED read waits in DRAINING while the
initial leading copy is due, with nothing in flight too, is the model's choice (log entry 8). -/
def Obligations.StackRegionTransfers : Prop :=
  (∀ (t : Transfer) (k : StackSlot) (s : State), s.Running → s.PortFree → t.aligned = true → s.windowOf t = none →
      s.cellRegionOf t = some k →
      let row := (t.start - (s.stack k).cellBase) / ((s.stack k).width * 8)
      let noted := (s.entries.filter fun e => e.line = lineOf t.start).map (·.tag)
      let onward := ∃ u, exec (.cameraTransfer t) s = .next u ∧ ForwardedOrHeld t s u
      ((t.op = .lockedRead ∨ ∃ d, t.op = .write d) →
        ∃ u, exec (.cameraTransfer t) s = .next u ∧ RefusedWith .blockedWrite .blockedWrites t s u)
      ∧ (t.op = .read →
        ((s.stack k).state = .clearing → row < (s.stack k).cursor → onward)
        ∧ ((s.stack k).state = .clearing → (s.stack k).cursor ≤ row →
          exec (.cameraTransfer t) s = .next { s with answers := (t, .retry) :: s.answers })
        ∧ ((s.stack k).state = .openState → noted = [] → onward)
        ∧ ((s.stack k).state = .openState → noted ≠ [] →
          exec (.cameraTransfer t) s
            = .next { s with current := some { transfer := t, stage := .held (.placement noted) } })
        ∧ ((s.stack k).state = .rendering ∨ (s.stack k).state = .rendered → onward)))
  ∧ (∀ (t : Transfer) (k : StackSlot) (s : State), s.Running → s.PortFree → t.aligned = true → s.windowOf t = none →
      s.cellRegionOf t = none → s.outputRegionOf t = some k →
      let row := (t.start - (s.stack k).outputBase) / ((s.stack k).width * 4)
      let onward := ∃ u, exec (.cameraTransfer t) s = .next u ∧ ForwardedOrHeld t s u
      ((s.stack k).state = .rendering → (t.op = .lockedRead ∨ ∃ d, t.op = .write d) →
        ∃ u, exec (.cameraTransfer t) s = .next u ∧ RefusedWith .blockedWrite .blockedWrites t s u)
      ∧ ((s.stack k).state = .rendering → t.op = .read → (s.stack k).cursor ≤ row →
        exec (.cameraTransfer t) s = .next { s with answers := (t, .retry) :: s.answers })
      ∧ ((s.stack k).state = .rendering → t.op = .read → row < (s.stack k).cursor → onward)
      ∧ ((s.stack k).state ≠ .rendering → (t.op = .read ∨ t.op = .lockedRead ∨ ∃ d, t.op = .write d) → onward))

/-- Transfers of the control area (R134 to R136): a PLAIN LINE write of the command-word line is told SPLIT; a PLAIN write
or a LOCKED read of the parameter block or the plan table is held while the engine executes; any other PLAIN transfer or
LOCKED read of the line, but for a WORD write of its first two words, and of the block or the table is forwarded, or held
behind the unwritten copies it meets (R153). That a LOCKED read waits in DRAINING while the initial leading copy is due,
with nothing in flight too, is the model's choice (log entry 8). -/
def Obligations.ControlAreaTransfers : Prop :=
  ∀ (t : Transfer) (s : State), s.Running → s.PortFree → t.aligned = true → s.windowOf t = none →
    s.cellRegionOf t = none → s.outputRegionOf t = none →
    let taken := t.op = .read ∨ t.op = .lockedRead ∨ ∃ d, t.op = .write d
    let onward := ∃ u, exec (.cameraTransfer t) s = .next u ∧ ForwardedOrHeld t s u
    (s.inControlLine t = true → (∃ d, t.op = .write d) → t.size = .line →
      exec (.cameraTransfer t) s = .next { s with answers := (t, .split) :: s.answers })
    ∧ (s.inControlLine t = true → taken →
      (t.op = .read ∨ t.op = .lockedRead ∨ t.size = .byte ∨ t.size = .half
        ∨ t.size = .word ∧ t.start ≠ s.controlBase ∧ t.start ≠ s.controlBase + 4) → onward)
    ∧ (s.inControlLine t = false → s.inTables t = true → s.executing = true →
      (t.op = .lockedRead ∨ ∃ d, t.op = .write d) →
      exec (.cameraTransfer t) s = .next { s with current := some { transfer := t, stage := .held .command } })
    ∧ (s.inControlLine t = false → s.inTables t = true → taken → (s.executing = true → t.op = .read) → onward)

/-- The releases of the four holds (R129). Intake: with room the held raw write is classified afresh, as at a take, and
one that R132 still allows is taken into intake and given DONE (R133). Command: with the engine IDLE a held transfer is
forwarded, or waits for unwritten copies (R136, R153). Placement and copy: with every entry noted gone, or every copy
noted written, it is forwarded (R93, R153). Until then the hold stands (log entry 6). The data 0 of a raw write's DONE is
the model's choice (log entry 16). That a LOCKED read waits in DRAINING while the initial leading copy is due, with
nothing in flight too, is the model's choice (log entry 8). -/
def Obligations.HoldsAreReleased : Prop :=
  ∀ (t : Transfer) (noted : List Nat) (s : State), s.Running →
    (s.current = some { transfer := t, stage := .held .intakeFull } → t.aligned = true →
      (s.intake.length < 8 → exec .intakeHoldRelease s = exec (.cameraTransfer t) { s with current := none })
      ∧ (∀ (d : Line) (i : SegIdx), s.intake.length < 8 → s.lock = none → t.op = .write d → s.windowOf t = some i →
        t.size ≠ .byte → t.inside s.segs[i].rawBase s.segs[i].windowSize = true →
        s.segs[i].writer.allows t.initiator = true →
        ∃ u, exec .intakeHoldRelease s = .next u ∧ u.current = none ∧ u.answers = (t, .done 0) :: s.answers)
      ∧ (8 ≤ s.intake.length → exec .intakeHoldRelease s = .next s))
    ∧ (s.current = some { transfer := t, stage := .held .command } →
      (s.engine = .idle → s.copiesNoted t = [] → ∃ u, exec .commandHoldRelease s = .next u ∧ HandedOn t s u)
      ∧ (s.engine = .idle → s.copiesNoted t ≠ [] →
        exec .commandHoldRelease s
          = .next { s with current := some { transfer := t, stage := .held (.copy (s.copiesNoted t)) } })
      ∧ (s.engine ≠ .idle → exec .commandHoldRelease s = .next s))
    ∧ (s.current = some { transfer := t, stage := .held (.placement noted) } →
      ((∀ e ∈ s.entries, e.tag ∉ noted) → ∃ u, exec .placementHoldRelease s = .next u ∧ HandedOn t s u)
      ∧ ((∃ e ∈ s.entries, e.tag ∈ noted) → exec .placementHoldRelease s = .next s))
    ∧ (s.current = some { transfer := t, stage := .held (.copy noted) } →
      ((∀ n ∈ noted, s.copyUnwritten n = false) → ∃ u, exec .copyHoldRelease s = .next u ∧ HandedOn t s u)
      ∧ ((∃ n ∈ noted, s.copyUnwritten n = true) → exec .copyHoldRelease s = .next s))

/-- A forwarded transfer's termination is relayed (R131): DONE or FAULT; the transfer leaves the in-flight set and the
port is free. A DONE carries memory's data for a read, and also for an ACKNOWLEDGE that the part does not answer (R140),
which is the model's reading, as is the data 0 of a write's (log entry 16). Only the end of a lock follows: at the
termination of a LOCKED_LAST write, or a FAULT of a LOCKED read (R141, R152). No flag, counter or rewrite acts. -/
def Obligations.ForwardedTerminationIsRelayed : Prop :=
  ∀ (t : Transfer) (result : Termination) (s : State), s.Running →
    s.current = some { transfer := t, stage := .forwarding } → s.inFlightFor .forward = true →
    let lockEnds := (∃ d, t.op = .lockedLastWrite d) ∨ (t.op = .lockedRead ∧ result = .fault)
    let v : State := { s with
      current := none, inFlight := s.inFlight.eraseP (fun f => f.owner == .forward)
      answers := (t, match result, t.op with
        | .fault, _ => .fault
        | .done _, .write _ | .done _, .lockedWrite _ | .done _, .lockedLastWrite _ => .done 0
        | .done d, _ => .done d) :: s.answers }
    (¬ lockEnds → exec (.forwardTermination result) s = .next v)
    ∧ (lockEnds → exec (.forwardTermination result) s = .next { v with lock := none, lockState := .free })

/-- An ACKNOWLEDGE at the strapped level is answered DONE at once with the cause, lock or none, and changes no flag, enable,
counter or rewrite. With the attention line asserted the cause is the number of the lowest flag set and enabled; otherwise
it is 0 (R171). -/
def Obligations.AcknowledgeReturnsTheLowestCause : Prop :=
  ∀ (initiator level : BitVec 3) (s : State), s.Running → s.current = none → s.level ≠ 0 → level = s.level →
    ∃ cause : Nat,
      exec (.acknowledgeTransfer initiator level) s = .next { s with
        answers := ({ initiator := initiator, addr := 0, size := .byte, op := .acknowledge level },
          .done (BitVec.ofNat 256 cause)) :: s.answers }
      ∧ (s.attn = false → cause = 0)
      ∧ (s.attn = true → ∃ f : Flag, cause = f.bit + 1 ∧ s.flagSet f = true ∧ s.enables.getLsbD f.bit = true
        ∧ ∀ g : Flag, g.bit < f.bit → ¬ (s.flagSet g = true ∧ s.enables.getLsbD g.bit = true))

/-- A WORD write of the acknowledge word (R168): it is forwarded, and at its take the flags selected are cleared, with
WATCH_HIT every hit record and hit count (R125), and with bit 31 all eight counters. The enables stay. A rewrite is requested
when a flag selected was set, and by every counter clear. -/
def Obligations.AcknowledgeWordClearsFlagsAndCounters : Prop :=
  ∀ (initiator : BitVec 3) (select : BitVec 31) (counters : Bool) (s : State),
    let t := s.controlWrite initiator 4 (ackWord counters select)
    let command : Instr := if counters then .ackClearCounters initiator select else .ackClearFlags initiator select
    s.Running → s.PortFree → s.ControlLineClear t →
    ∃ u, exec command s = .next u
      ∧ u = { s with
          current := some { transfer := t, stage := .forwarding }, flags := s.flags &&& ~~~(select.setWidth 15)
          attn := u.attn, watch := u.watch, counters := u.counters, rewrite := u.rewrite
          rewriteCount := u.rewriteCount, mark := u.mark }
      ∧ u.attn = attention u.flags s.enables
      ∧ (∀ c, u.counter c = if counters then 0 else s.counter c)
      ∧ (∀ i : Fin 4, u.watch[i]
        = if select.getLsbD 10 then { s.watch[i] with hit := none, hitCount := 0 } else s.watch[i])
      ∧ RewriteAfter (counters || s.flags &&& select.setWidth 15 != 0) s u

/-! ### Exposures and segment progress -/

/-- A pixel inside the extent offered to an ARMED record (R36): index 0 starts the frame, with the position count at 1 and
the accumulator empty, and is taken for the record's exposure, which becomes READING with its stall timer armed (R25, R28);
any other pixel is an orphan, and the record stays ARMED. -/
def Obligations.PixelOfferedToArmedSegment : Prop :=
  ∀ (i : SegIdx) (p id : Nat) (cls : PixelClass) (s : State), (s.queue.map (·.id)).Nodup →
    s.progress[i].state = .armed id → 1 < s.segs[i].extent →
    (p ≠ 0 → s.offer i p cls = (s.orphan, none) ∧ s.orphan.progress[i] = s.progress[i])
    ∧ (p = 0 → ∃ u, s.offer i p cls = (u, some id)
      ∧ u = { s with
          progress := s.progress.set i.1 { s.progress[i] with state := .reading id, count := 1, acc := none } i.2
          queue := s.queue.map fun e => if e.id = id then e.withPixel cls else e
          requested := s.requested || s.queue.any fun e => e.id == id && e.state == .queued })

/-- A pixel other than index 0 offered to a READING record is taken for its exposure and raises the position count (R37);
when the count reaches the extent the segment has ended its exposure, whose cut reason stays, and the record stands at its
next assignment (R39). Pixel index 0 ends the frame as a short frame (R38): the segment has ended its exposure, cut SHORT if
no reason was set; the short-frame counter rises; and the pixel starts the frame of the record's next assignment, as one
offered to an ARMED record, or is an orphan if there is none. An exposure whose every segment has so ended is DRAINING, its
outcome COMPLETE without a cut reason and CUT with one and its stall timer absent, and is tested for DONE (R25, R26, R28). A
data pixel that completes a frame is counted as taken and outstanding first (R30). -/
def Obligations.PixelOfferedToReadingSegment : Prop :=
  (∀ (i : SegIdx) (p id : Nat) (cls : PixelClass) (s : State), s.LedgerBalances →
      s.progress[i].state = .reading id → p ≠ 0 →
      ∃ u, s.offer i p cls = (u, some id)
        ∧ (∀ j : SegIdx, j ≠ i → u.progress[j] = s.progress[j])
        ∧ (s.progress[i].count + 1 < s.segs[i].extent →
          u = { s with
            progress := s.progress.set i.1 { s.progress[i] with count := s.progress[i].count + 1 } i.2
            queue := s.queue.map fun e => if e.id = id then e.withPixel cls else e
            requested := s.requested || s.queue.any fun e => e.id == id && e.state == .queued })
        ∧ (s.segs[i].extent ≤ s.progress[i].count + 1 →
          let v : State := { s with
            queue := s.queue.map fun e => if e.id = id then (e.withPixel cls).endedBy i none else e
            requested := s.requested || s.queue.any fun e =>
              e.id == id && (e.state == .queued || e.ended ||| segMask i == e.segSet) }
          u = { v.testDone id with
            progress := s.progress.set i.1 (s.progress[i].movedTo (nextAssignment i v.queue)) i.2 }
          ∧ (∀ e ∈ u.queue, e.id = id → e.ended.getLsbD i.1 = true
            ∧ ∀ e0 ∈ s.queue, e0.id = id → e.cutReason = e0.cutReason)))
  ∧ (∀ (i : SegIdx) (id : Nat) (cls : PixelClass) (s : State), s.LedgerBalances →
      s.progress[i].state = .reading id → 1 < s.segs[i].extent →
      let v : State := { s with
        queue := s.queue.map fun e => if e.id = id then e.endedBy i (some .short) else e
        requested := s.requested || s.queue.any fun e => e.id == id && e.ended ||| segMask i == e.segSet }
      let next : Option Nat := nextAssignment i v.queue
      let w : State := { (v.testDone id).bump .shortFrames with
        progress := s.progress.set i.1 (s.progress[i].movedTo next) i.2 }
      ∃ u, s.offer i 0 cls = (u, next)
        ∧ (next = none → u = w.orphan)
        ∧ (∀ id', next = some id' → w.progress[i].state = .armed id' ∧ w.offer i 0 cls = (u, some id'))
        ∧ u.counter .shortFrames = saturatingSucc (s.counter .shortFrames)
        ∧ (∀ e ∈ u.queue, e.id = id → e.ended.getLsbD i.1 = true
          ∧ ∀ e0 ∈ s.queue, e0.id = id → e.cutReason = some (e0.cutReason.getD .short))
        ∧ (∀ j : SegIdx, j ≠ i → u.progress[j] = s.progress[j])
        ∧ (next = none → u.progress[i] = { s.progress[i] with state := .idle, count := 0 }
          ∧ u.counter .orphanPixels = saturatingSucc (s.counter .orphanPixels))
        ∧ (∀ id', next = some id' →
          u.progress[i] = { s.progress[i] with state := .reading id', count := 1, acc := none }))

/-- A DRAINING exposure with nothing outstanding becomes DONE, DEGRADED if it lost a pixel or has a degraded one (R25, R26);
then DONE exposures retire from the head until one is not DONE (R31): each leaves the queue for the head of the retired
list, which keeps four (R32), its stack's reference count falls, it sets EXPOSURE_DONE or EXPOSURE_CUT, and it requests a
rewrite (a second one, a second rewrite; log entry 4). An exposure not so drained is left as it is. -/
def Obligations.DrainedExposureIsDoneAndRetires : Prop :=
  ∀ (id : Nat) (e : Exposure) (s : State), (s.queue.map (·.id)).Nodup → s.WithinCapacity →
    s.attn = attention s.flags s.enables → e ∈ s.queue → e.id = id →
    (¬ (e.state = .draining ∧ e.outstanding = 0) → s.testDone id = s)
    ∧ (e.state = .draining → e.outstanding = 0 →
      let done := { e with
        state := .done
        outcome := e.outcome.map fun o => { o with degraded := decide (0 < e.tallies.lost ∨ 0 < e.tallies.degraded) } }
      let queue := s.queue.map fun x => if x.id = id then done else x
      let gone := queue.takeWhile fun x => x.state = .done
      let cut (x : Exposure) : Bool := x.outcome.any (·.cut)
      ∃ u, s.testDone id = u
        ∧ u = { s with
            queue := queue.dropWhile (fun x => x.state = .done)
            retired := ((gone.map retiredOf).reverse ++ s.retired).take 4, requested := true
            retirements := s.retirements + gone.length
            flags := u.flags, attn := u.attn, stack0 := u.stack0, stack1 := u.stack1 }
        ∧ (∀ k, u.stack k = { s.stack k with
            refCount := (s.stack k).refCount - (gone.filter fun x => x.stackSlot = k).length })
        ∧ FlagsSet ((if gone.any cut then [.exposureCut] else [])
            ++ (if gone.any fun x => !cut x then [.exposureDone] else [])) s u)

/-- The expiry of a READING exposure's stall timer acts as a close with reason STALLED (R29): the exposure is cut, the
records on it move to their next assignments (R40), a rewrite is requested, and the test for DONE follows (R25). Without an
expiry due nothing takes place. That an expiry is due at a timer of 0 is the model's choice (log entries 3 and 6). -/
def Obligations.StallExpiryCutsTheExposure : Prop :=
  ∀ (id : BitVec 16) (s : State), s.Running → s.LedgerBalances →
    (∀ e ∈ s.queue, e.id = id.toNat → e.state = .reading → e.timer = some 0 →
      exec (.stallTimerExpiry id) s = .next ((s.withCut e.id .stalled).testDone e.id).settleRequests)
    ∧ ((∀ e ∈ s.queue, e.id = id.toNat → e.state ≠ .reading ∨ e.timer ≠ some 0) →
      exec (.stallTimerExpiry id) s = .next s)

/-! ### The bias estimator -/

/-- A complete overscan row moves the estimate part of the way to the row's mean (R53, R54). The mean is that of the row
less one instance of its maximum when there are 4 or more columns, rounded to nearest with ties upward; the new estimate
lies between the old one and the mean, is the mean for k = 0, and otherwise differs by the rounded share. -/
def Obligations.CompleteRowMovesBiasTowardsItsMean : Prop :=
  ∀ (ov k B : Nat) (a : Accumulator), 1 ≤ ov → ov ≤ 64 → k ≤ 7 → B ≤ 1048560 → a.n = ov → a.max ≤ a.sum →
    a.max ≤ 65535 → a.sum ≤ a.max + 65535 * (a.n - 1) →
    let used : Int := if 4 ≤ ov then a.sum - a.max else a.sum
    let count : Int := if 4 ≤ ov then a.n - 1 else a.n
    let mean := rowMean ov a
    let new : Int := newBias ov k B a
    2 * count * mean ≤ 32 * used + count ∧ 32 * used + count < 2 * count * (mean + 1)
      ∧ 0 ≤ mean ∧ mean ≤ 1048560
      ∧ min (B : Int) mean ≤ new ∧ new ≤ max (B : Int) mean
      ∧ (k = 0 → new = mean)
      ∧ (0 < k → 2 ^ k * (new - B) ≤ mean - B + 2 ^ (k - 1) ∧ mean - B + 2 ^ (k - 1) < 2 ^ k * (new - B + 1))

/-- An overscan pixel at its segment's accumulator (R51, R52): it joins a row in hand or begins one; a pixel of another row
discards the row in hand, setting BIAS_ROW_LOST and raising its counter; and a row that reaches ov pixels moves B and empties
the accumulator (R53). The state and the position count of the record stay. -/
def Obligations.OverscanPixelIsGathered : Prop :=
  ∀ (i : SegIdx) (row raw : Nat) (s : State), s.attn = attention s.flags s.enables →
    let p := s.progress[i]
    let r := s.segs[i]
    let fresh : Accumulator := { row := row, sum := raw, n := 1, max := raw }
    let after (a : Accumulator) : Progress :=
      if r.ov ≤ a.n then { p with B := newBias r.ov r.k p.B a, acc := none } else { p with acc := some a }
    let u := s.gather i row raw
    (p.acc = none → u = { s with progress := s.progress.set i.1 (after fresh) i.2 })
    ∧ (∀ a, p.acc = some a → a.row = row →
      u = { s with
        progress := s.progress.set i.1
          (after { row := row, sum := a.sum + raw, n := a.n + 1, max := max a.max raw }) i.2 })
    ∧ (∀ a, p.acc = some a → a.row ≠ row →
      u = { s with
        progress := s.progress.set i.1 (after fresh) i.2, flags := u.flags, attn := u.attn, counters := u.counters
        requested := s.requested || !s.flagSet .biasRowLost }
      ∧ FlagsSet [.biasRowLost] s u ∧ CountersRaised [.biasRowsLost] s u)

/-! ### Intake and calibration -/

/-- The way of a raw pixel from its index to its cell and its flat value. Its class follows from its row and column (R15).
For a record within the checks of R3, the kernel shuffle turns every odd group of K columns round (R16); shuffle and
orientation are one-to-one and within the rectangle of R17, and an orientation is one of its eight rows. The mosaic
position adds X0, Y0 and the dither, so that two data pixels never share one under one dither, and is on-frame within the
stack's width and height (R18). An on-frame position's cell lies wholly at its lane of its line within the cell region,
apart from every other position's (R19, R98). A flat value lies in raw order within the flat plane, apart from every other
pixel's (R20). -/
def Obligations.PixelGeometryIsOneToOne : Prop :=
  (∀ (r : SegRecord) (p : Nat),
      (r.rowlen * r.H ≤ p → classOf r p = .overrun)
      ∧ (∀ row c, row < r.H → c < r.rowlen → p = row * r.rowlen + c →
        classOf r p = if c < r.prescan then .prescan
          else if r.prescan + r.W ≤ c then .overscan row else .data row (c - r.prescan)))
  ∧ (∀ (r : SegRecord) (dx dy : Int), r.passesR3 = true →
      let column (d : Nat) : Nat := if d / r.K % 2 = 0 then d else d / r.K * r.K + (r.K - 1 - d % r.K)
      let oriented (d row : Nat) : Int × Int := orient r.orientation r.W r.H (column d) row
      let wide := r.orientation < 4
      let place (row d : Nat) : Int × Int := mosaicOf r dx dy row d
      (∀ d, d < r.W → trueColumn r.K d = column d ∧ column d < r.W ∧ column (column d) = d)
      ∧ (∀ u v : Nat, orient r.orientation r.W r.H u v
        = ([(u, v), (r.W - 1 - u, v), (u, r.H - 1 - v), (r.W - 1 - u, r.H - 1 - v),
            (v, u), (r.H - 1 - v, u), (v, r.W - 1 - u), (r.H - 1 - v, r.W - 1 - u)] : List (Int × Int)).getD
              r.orientation (0, 0))
      ∧ (∀ row d, row < r.H → d < r.W →
        0 ≤ (oriented d row).1 ∧ (oriented d row).1 < (if wide then r.W else r.H)
          ∧ 0 ≤ (oriented d row).2 ∧ (oriented d row).2 < (if wide then r.H else r.W)
          ∧ place row d = (r.X0 + dx + (oriented d row).1, r.Y0 + dy + (oriented d row).2))
      ∧ (∀ row d row' d', row < r.H → d < r.W → row' < r.H → d' < r.W → place row d = place row' d' →
        row = row' ∧ d = d'))
  ∧ (∀ (k : StackRecord) (p : Int × Int),
      onFrame k p = true ↔ 0 ≤ p.1 ∧ p.1 < k.width ∧ 0 ≤ p.2 ∧ p.2 < k.height)
  ∧ (∀ (k : StackRecord) (x y : Nat), k.cellBase % 32 = 0 → x < k.width → y < k.height →
      let a := cellAddress k x y
      a = lineOf a + 8 * (laneIndex a).1 ∧ lineOf a % 32 = 0
        ∧ k.cellBase ≤ a ∧ a + 8 ≤ k.cellBase + k.width * k.height * 8
        ∧ (∀ x' y', x' < k.width → y' < k.height → cellAddress k x' y' = a → x' = x ∧ y' = y))
  ∧ (∀ (fb : Nat) (r : SegRecord) (row d : Nat), row < r.H → d < r.W →
      let a := flatAddress fb r row d
      a = fb + 2 * (row * r.W + d) ∧ a + 2 ≤ fb + 2 * r.W * r.H
        ∧ (∀ row' d', row' < r.H → d' < r.W → flatAddress fb r row' d' = a → row' = row ∧ d' = d))

/-- The termination of a keep-raw copy (R154): it leaves the in-flight set, and a FAULT sets MEMORY_FAULT and raises the
memory-fault counter. The termination of a flat read touches its own slot alone (R64, R65): DONE gives the line its 32 bytes,
FAULT marks it FAULTED and counts a memory fault. Neither has an effect once a RESTART has let it go (R75). -/
def Obligations.CopyAndFlatTerminations : Prop :=
  (∀ (slot : Nat) (f : InFlight) (s : State), s.Running → s.inFlight.find? (fun x => x.owner == .copy slot) = some f →
      let v : State := { s with inFlight := s.inFlight.eraseP fun x => x.owner == .copy slot }
      (∀ d, exec (.keepRawCopyDone slot (.done d)) s = .next v)
      ∧ (f.live = true → ∃ u, exec (.keepRawCopyDone slot .fault) s = .next u ∧ FaultCounted v u)
      ∧ (f.live = false → exec (.keepRawCopyDone slot .fault) s = .next v))
  ∧ (∀ (slot addr : Nat) (f : InFlight) (s : State), s.Running →
      s.inFlight.find? (fun x => x.owner == .flat slot && x.transfer.addr == addr) = some f →
      let landed := s.inFlight.eraseP fun x => x.owner == .flat slot && x.transfer.addr == addr
      let with_ (st : FlatStatus) : State :=
        { s with
          inFlight := landed
          intake := s.intake.map fun sl =>
            if sl.tag = slot then
              { sl with flats := sl.flats.map fun x => if x.addr = addr then { x with status := st } else x }
            else sl }
      (f.live = true → ∀ d, exec (.flatReadDone slot addr (.done d)) s = .next (with_ (.read d)))
      ∧ (f.live = true →
        ∃ u, exec (.flatReadDone slot addr .fault) s = .next u ∧ FaultCounted (with_ .faulted) u)
      ∧ (f.live = false → ∀ result, exec (.flatReadDone slot addr result) s = .next { s with inFlight := landed }))

/-- The contribution arithmetic (R68 to R71): D16 is 16 R − B; C is G E / 1024 to nearest, ties upward; P is D16 C F / 2^32
to nearest, ties away from zero, of the sign of D16 and at most 2^26 in size; V is P clamped to the contribution range. -/
def Obligations.ContributionArithmetic : Prop :=
  ∀ (R B G E F : Nat), R ≤ 65535 → B ≤ 1048560 → 1 ≤ G → G ≤ 65535 → 1 ≤ E → E ≤ 65535 → F ≤ 65535 →
    let D := debiased R B
    let C := combinedFactor G E
    let P := productValue D C F
    let V := contributionValue R B G E F
    D = 16 * (R : Int) - B
      ∧ 2048 * C ≤ 2 * (G * E : Nat) + 1024 ∧ 2 * (G * E : Nat) + 1024 < 2048 * (C + 1) ∧ 0 ≤ C ∧ C ≤ 4194176
      ∧ (0 ≤ D → 2 ^ 33 * P ≤ 2 * (D * C * F) + 2 ^ 32 ∧ 2 * (D * C * F) + 2 ^ 32 < 2 ^ 33 * (P + 1) ∧ 0 ≤ P)
      ∧ (D < 0 → 2 ^ 33 * -P ≤ 2 * -(D * C * F) + 2 ^ 32 ∧ 2 * -(D * C * F) + 2 ^ 32 < 2 ^ 33 * (-P + 1) ∧ P ≤ 0)
      ∧ -67108864 ≤ P ∧ P ≤ 67108864
      ∧ (-8388608 ≤ P ∧ P ≤ 8388607 → V = P) ∧ (P < -8388608 → V = -8388608) ∧ (8388607 < P → V = 8388607)

/-- The calibration unit decides the data pixel at its cursor (R66, R67): off-frame and masked pixels are tallied and end
here; a pixel whose flat line is PENDING waits; a saturated pixel, or the value of R68 to R71, is offered to the placement
queue (R73) and on its acceptance compared with the watch entries (R123); refused, the cursor stays on it. Past a pixel
decided, the cursor of its slot moves by one, and the intake buffer settles (R60, R66; log entry 20). The flat value is
16384 with no mark when flat base is NONE (R66); the half-word at byte a mod 32 of the line of the pixel's flat address a,
when that line is READ (R20, R64), and some value at byte 31, where only an odd flat base installed unchecked puts it (log
entry 9); and 16384 with the substitution mark when it is FAULTED (R65). -/
def Obligations.CalibrationDecidesThePixelAtItsCursor : Prop :=
  (∀ s : State, s.settleIntake = { s with intake := s.settleIntake.intake }
      ∧ IntakeSettles s.intake s.settleIntake.intake)
  ∧ (∀ (slot : Nat) (s : State), ∃ u, s.advanceCursor slot = u ∧ u = { s with intake := u.intake }
      ∧ IntakeSettles (s.intake.map fun sl => if sl.tag = slot then { sl with cursor := sl.cursor + 1 } else sl) u.intake)
  ∧ (∀ (sl : IntakeSlot) (row col : Nat),
      (sl.record.flatBase = none → flatInput sl row col = some (16384, false))
      ∧ (∀ fb, sl.record.flatBase = some fb →
        let a := fb + 2 * (row * sl.record.W + col)
        ((∀ f ∈ sl.flats, f.addr ≠ a - a % 32) → flatInput sl row col = none)
        ∧ (∀ f older newer, sl.flats = older ++ f :: newer → f.addr = a - a % 32 →
          (∀ g ∈ older, g.addr ≠ a - a % 32) →
          (f.status = .pending → flatInput sl row col = none)
          ∧ (f.status = .faulted → flatInput sl row col = some (16384, true))
          ∧ (∀ line, f.status = .read line → a % 32 ≠ 31 →
            flatInput sl row col = some (line.toNat / 2 ^ (8 * (a % 32)) % 65536, false))
          ∧ (∀ line, f.status = .read line → a % 32 = 31 →
            ∃ F, F ≤ 65535 ∧ flatInput sl row col = some (F, false)))))
  ∧ ∀ (sl : IntakeSlot) (e : Exposure) (raw row col : Nat) (s : State), s.Running →
    let w := s.settleIntake
    w.workingSlot = some sl → sl.pixels[sl.cursor]? = some { raw := raw, cls := .data row col, taken := true } →
    sl.exposure.bind s.exposure? = some e →
    let p := mosaicOf sl.record e.dx e.dy row col
    let k := s.stack e.stackSlot
    let a := cellAddress k p.1.toNat p.2.toNat
    let tallied (f : Fate) : State :=
      { s with
        intake := (w.advanceCursor sl.tag).intake
        queue := s.queue.map fun x => if x.id = e.id then x.report f else x }
    let offered (kind : ContribKind) : Contribution :=
      { kind := kind, exposure := e.id, stackSlot := e.stackSlot, x := p.1.toNat, y := p.2.toNat }
    let handedOver (kind : ContribKind) : Prop :=
      match w.acceptContribution (lineOf a) (laneIndex a) (offered kind) with
      | some v =>
        exec .calibratePixel s = .next ((v.watchCompare (offered kind)).advanceCursor sl.tag).settleRequests
      | none => exec .calibratePixel s = .next w
    (onFrame k p = false → exec .calibratePixel s = .next ((tallied .offFrame).testDone e.id).settleRequests)
    ∧ (onFrame k p = true → flatInput sl row col = none → exec .calibratePixel s = .next w)
    ∧ (onFrame k p = true → flatInput sl row col = some (0, false) →
      exec .calibratePixel s = .next ((tallied .masked).testDone e.id).settleRequests)
    ∧ (∀ F substituted, onFrame k p = true → flatInput sl row col = some (F, substituted) →
      (F ≠ 0 ∨ substituted = true) →
      (sl.record.S ≤ raw → handedOver .satOnly)
      ∧ (raw < sl.record.S →
        handedOver (.add (contributionValue raw sl.B sl.record.G e.E F) substituted)))

/-! ### Watch entries -/

/-- The comparison of a contribution at its formation (R120, R123, R124): each entry that is enabled, names its stack, lies
at its position (an ignore code matching every coordinate) and whose threshold its value meets, or any SAT_ONLY, counts it,
to at most 65535, and records it if it holds no record; a match sets WATCH_HIT and requests a rewrite. -/
def Obligations.WatchEntriesCompareAContribution : Prop :=
  ∀ (c : Contribution) (s : State), s.Settled →
    let at_ (w x : Nat) : Prop := (0xC000 ≤ w ∧ w ≤ 0xFFFF) ∨ w = x
    let matched (w : WatchEntry) : Prop :=
      w.enabled = true ∧ c.stackSlot = w.stackSlot ∧ at_ w.x c.x ∧ at_ w.y c.y
        ∧ (c.kind = .satOnly ∨ ∃ V d, c.kind = .add V d ∧ w.threshold ≤ V)
    let value : HitValue := match c.kind with
      | .add V _ => .add V
      | .satOnly => .sat
    let u := s.watchCompare c
    (∀ i : Fin 4,
      (matched s.watch[i] → u.watch[i] = { s.watch[i] with
        hitCount := min 65535 (s.watch[i].hitCount + 1)
        hit := some (s.watch[i].hit.getD { exposure := c.exposure, x := c.x, y := c.y, value := value }) })
      ∧ (¬ matched s.watch[i] → u.watch[i] = s.watch[i]))
    ∧ ((∀ i : Fin 4, ¬ matched s.watch[i]) → u = s)
    ∧ ((∃ i : Fin 4, matched s.watch[i]) →
      u = { s with watch := u.watch, flags := u.flags, attn := u.attn, requested := true } ∧ FlagsSet [.watchHit] s u)

/-! ### Placement -/

/-- The acceptance of a contribution for a line and lane (R83): the newest WAITING entry of the line takes it in an empty
lane; otherwise a new entry at the end of the formation order, if there is room; otherwise it is refused. -/
def Obligations.PlacementQueueAcceptsAContribution : Prop :=
  ∀ (line : Nat) (j : Fin 4) (c : Contribution) (s : State), (s.entries.map (·.tag)).Nodup →
    let merges (e : Entry) (older newer : List Entry) : Prop :=
      s.entries = older ++ e :: newer ∧ e.state = .waiting ∧ e.line = line
        ∧ (∀ x ∈ newer, ¬ (x.state = .waiting ∧ x.line = line)) ∧ e.lanes[j] = none
    (∀ e older newer, merges e older newer →
      s.acceptContribution line j c = some { s with
        entries := older ++ { e with lanes := e.lanes.set j.1 (some c) j.2 } :: newer })
    ∧ ((∀ e older newer, ¬ merges e older newer) →
      (s.entries.length < 32 → ∃ lanes : Vector (Option Contribution) 4,
        (∀ m : Fin 4, lanes[m] = if m = j then some c else none)
        ∧ s.acceptContribution line j c = some { s with
          entries := s.entries ++ [{ tag := s.nextEntry, line := line, lanes := lanes, state := .waiting }]
          nextEntry := s.nextEntry + 1 })
      ∧ (32 ≤ s.entries.length → s.acceptContribution line j c = none))

/-- With nothing presented and no write due, the engine starts the oldest eligible entry: WAITING with no older entry of its
line (R86). It becomes READING and its read is presented. -/
def Obligations.OldestEligibleEntryIsStarted : Prop :=
  ∀ (e : Entry) (older newer : List Entry) (s : State), s.Running → (s.entries.map (·.tag)).Nodup →
    s.placePresented = none → (∀ x ∈ s.entries, s.writeDue x = false) → s.entries = older ++ e :: newer →
    e.state = .waiting → (∀ x ∈ older, x.line ≠ e.line) →
    (∀ x a b, older = a ++ x :: b → x.state = .waiting → ∃ y ∈ a, y.line = x.line) →
    exec .placementEntryStart s = .next { s with
      entries := older ++ { e with state := .reading } :: newer, placePresented := some e.tag }

/-- At its cell an ADD of V below depth 63 changes sum, peak, count and DEG; at depth 63 it changes nothing and overflows; a
SAT_ONLY sets SAT and nothing else (R77, R79 to R81). The read-modify-write of a line applies each occupied lane to its own
cell and leaves the other lanes; the fates kept are those of the occupied lanes, in lane order, each for its contribution's
exposure; and the write's mask names the occupied lanes (R87). A cell's eight bytes read back as the cell written (R76,
R176). -/
def Obligations.OccupiedLanesAreAppliedToTheirCells : Prop :=
  (∀ c : Cell, -2147483648 ≤ c.sum → c.sum ≤ 2147483647 → -8388608 ≤ c.peak → c.peak ≤ 8388607 → c.count ≤ 63 →
      cellOf (cellBytes c) = c)
  ∧ (∀ (V : Int) (degraded : Bool) (c : Cell),
      (c.count < 63 →
        applyTo (.add V degraded) c
          = ({ sum := (c.sum + V + 2 ^ 31) % 2 ^ 32 - 2 ^ 31, peak := if c.count = 0 then V else max c.peak V
               count := c.count + 1, sat := c.sat, deg := c.deg || degraded }, .placed degraded))
      ∧ (63 ≤ c.count → applyTo (.add V degraded) c = (c, .overflow))
      ∧ applyTo .satOnly c = ({ c with sat := true }, .saturated))
  ∧ (∀ (lanes : Vector (Option Contribution) 4) (line : Line),
      (∀ j : Fin 4, laneOf (applyLanes lanes line).1 j
        = match lanes[j] with
          | none => laneOf line j
          | some c => cellBytes (applyTo c.kind (cellOf (laneOf line j))).1)
      ∧ (applyLanes lanes line).2 = (List.finRange 4).filterMap (fun j =>
          lanes[j].map fun c => (c.exposure, (applyTo c.kind (cellOf (laneOf line j))).2))
      ∧ (∀ j : Fin 4, (laneMask lanes).getLsbD j.1 = lanes[j].isSome))

/-- The read of a READING entry (R87, R89): DONE makes the entry WRITING with the image and the fates of its lanes, and an
engine with nothing presented presents its oldest write due (R86). The write of a WRITING entry (R88): DONE reports the fates
kept, each to its exposure, DEPTH_OVERFLOW and its counter acting for each overflow. FAULT of either loses every contribution
of the entry and counts one memory fault (R89, R90). An entry so ended leaves the queue and each exposure concerned is tested
for DONE (R25). A report raises the one tally of its fate, with the degraded tally for a degraded placed one, and lowers the
outstanding count (R30). Neither termination has an effect once a RESTART has let its transfer go (R96, R154). -/
def Obligations.PlacementTerminations : Prop :=
  (∀ (e : Entry) (f : InFlight) (s : State), s.Running → s.entry? e.tag = some e →
      s.inFlight.find? (fun x => x.owner == .placement e.tag && x.transfer.op == .read) = some f → f.live = true →
      let landed := s.inFlight.eraseP fun x => x.owner == .placement e.tag && x.transfer.op == .read
      (∀ line : Line,
        let v : State := { s with
          inFlight := landed
          entries := s.entries.map fun x =>
            if x.tag = e.tag then
              { x with state := .writing (applyLanes e.lanes line).1 (applyLanes e.lanes line).2 }
            else x }
        exec (.placementReadDone e.tag (.done line)) s
          = .next { v with placePresented := s.placePresented <|> (v.entries.find? v.writeDue).map fun x => x.tag })
      ∧ (let lost : State := { s with
          inFlight := landed, entries := s.entries.filter fun x => x.tag != e.tag
          queue := s.queue.map fun x =>
            (laneExposures e.lanes).foldl (fun y id => if y.id = id then y.report .lost else y) x }
        exec (.placementReadDone e.tag .fault) s
          = .next ((lost.memoryFault).testAll (laneExposures e.lanes)).settleRequests))
  ∧ (∀ (e : Entry) (image : Line) (fates : List (Nat × Fate)) (f : InFlight) (s : State), s.Running →
      s.entry? e.tag = some e → e.state = .writing image fates →
      s.inFlight.find? (fun x => x.owner == .placement e.tag && x.transfer.op != .read) = some f → f.live = true →
      let left : State := { s with
        inFlight := s.inFlight.eraseP fun x => x.owner == .placement e.tag && x.transfer.op != .read
        entries := s.entries.filter fun x => x.tag != e.tag }
      let overflows := (fates.filter fun x => x.2 = .overflow).length
      (∀ d, ∃ v, exec (.placementWriteDone e.tag (.done d)) s = .next ((v.testAll (fates.map (·.1))).settleRequests)
        ∧ v = { left with
            queue := s.queue.map fun x => fates.foldl (fun y p => if y.id = p.1 then y.report p.2 else y) x
            flags := v.flags, attn := v.attn, counters := v.counters
            requested := decide (0 < overflows) && !s.flagSet .depthOverflow }
        ∧ FlagsSet (if 0 < overflows then [.depthOverflow] else []) s v
        ∧ ∀ c, v.counter c
          = if c = .depthOverflows then (saturatingSucc)^[overflows] (s.counter c) else s.counter c)
      ∧ (let lost : State := { left with
          queue := s.queue.map fun x =>
            (laneExposures e.lanes).foldl (fun y id => if y.id = id then y.report .lost else y) x }
        exec (.placementWriteDone e.tag .fault) s
          = .next ((lost.memoryFault).testAll (laneExposures e.lanes)).settleRequests))
  ∧ (∀ (tag : Nat) (f : InFlight) (result : Termination) (s : State), s.Running → f.live = false →
      (s.inFlight.find? (fun x => x.owner == .placement tag && x.transfer.op == .read) = some f →
        exec (.placementReadDone tag result) s
          = .next { s with
              inFlight := s.inFlight.eraseP fun x => x.owner == .placement tag && x.transfer.op == .read })
      ∧ (s.inFlight.find? (fun x => x.owner == .placement tag && x.transfer.op != .read) = some f →
        exec (.placementWriteDone tag result) s
          = .next { s with
              inFlight := s.inFlight.eraseP fun x => x.owner == .placement tag && x.transfer.op != .read }))
  ∧ (∀ (x : Exposure) (fate : Fate), 0 < x.outstanding →
      let one (b : Bool) : Nat := if b then 1 else 0
      x.report fate = { x with
        outstanding := x.outstanding - 1
        tallies := { x.tallies with
          offFrame := x.tallies.offFrame + one (fate = .offFrame), masked := x.tallies.masked + one (fate = .masked)
          saturated := x.tallies.saturated + one (fate = .saturated)
          placed := x.tallies.placed + one (fate = .placed true ∨ fate = .placed false)
          overflow := x.tallies.overflow + one (fate = .overflow), lost := x.tallies.lost + one (fate = .lost)
          degraded := x.tallies.degraded + one (fate = .placed true) } })

/-! ### Stacks and sweeps -/

/-- A clear write of the sweep's row (R105 to R107): DONE goes on to the row's next line; after the last of its width / 4
lines the row is complete, and at height the stack is OPEN with STACK_READY; FAULT leaves the stack EMPTY, its cursor where
it was, with STACK_FAULT, MEMORY_FAULT and one memory fault counted. -/
def Obligations.ClearWriteTermination : Prop :=
  ∀ (f : InFlight) (w : SweepWork) (s : State), s.Running → s.inFlight.find? (fun x => x.owner.isClear) = some f →
    f.live = true → s.sweep = some w → (s.stack w.slot).state = .clearing →
    let v : State := { s with inFlight := s.inFlight.eraseP fun x => x.owner.isClear }
    (∀ d, w.line + 1 < (s.stack w.slot).width / 4 →
      exec (.clearWriteDone (.done d)) s
        = .next { v with sweep := some { slot := w.slot, line := w.line + 1, step := .clear } })
    ∧ (∀ d, (s.stack w.slot).width / 4 ≤ w.line + 1 →
      ∃ u, exec (.clearWriteDone (.done d)) s = .next u ∧ RowCompleted [] [] w.slot .openState .stackReady v u)
    ∧ ∃ u, exec (.clearWriteDone .fault) s = .next u
      ∧ u = { v.setStack w.slot { s.stack w.slot with state := .empty } with
          sweep := u.nextRow w.slot, flags := u.flags, attn := u.attn, counters := u.counters, rewrite := u.rewrite
          rewriteCount := u.rewriteCount, mark := u.mark }
      ∧ FlagsSet [.stackFault, .memoryFault] s u ∧ CountersRaised [.memoryFaults] s u ∧ RewriteAfter true s u

/-- A render read (R109, R111): DONE gives the four pixels of its cell line, FAULT counts a memory fault and blanks the
output line; both reads of a pair are made, and then the line is due to be written: the pair's pixels, or eight blank
markers if either read faulted. -/
def Obligations.RenderReadTermination : Prop :=
  (∀ j, j < 8 → bytesAt blankLine.toNat (4 * j) 4 = 0x80000000)
  ∧ ∀ (f : InFlight) (w : SweepWork) (s : State), s.Running → s.inFlight.find? (fun x => x.owner.isRenderRead) = some f →
    f.live = true → s.sweep = some w →
    let at_ (st : SweepStep) : State :=
      { s with
        inFlight := s.inFlight.eraseP fun x => x.owner.isRenderRead
        sweep := some { slot := w.slot, line := w.line, step := st } }
    let pixels (line : Line) : Nat := renderLine (s.stack w.slot).Nrej line
    (w.step = .renderRead0 →
      (∀ line, exec (.renderReadDone (.done line)) s = .next (at_ (.renderRead1 (some (pixels line)))))
      ∧ ∃ u, exec (.renderReadDone .fault) s = .next u ∧ FaultCounted (at_ (.renderRead1 none)) u)
    ∧ (∀ lo, w.step = .renderRead1 lo →
      (∀ line, exec (.renderReadDone (.done line)) s
        = .next (at_ (.renderWrite (lo.elim blankLine fun n => BitVec.ofNat 256 (n + pixels line * 2 ^ 128)))))
      ∧ ∃ u, exec (.renderReadDone .fault) s = .next u ∧ FaultCounted (at_ (.renderWrite blankLine)) u)

/-- A render write (R109, R112, R113): the sweep goes on to the next output line of the row; after the last of its width / 8
lines, DONE or FAULT, the row is complete, and at height the stack is RENDERED with STACK_RENDERED. A FAULT counts a memory
fault. -/
def Obligations.RenderWriteTermination : Prop :=
  ∀ (f : InFlight) (w : SweepWork) (s : State), s.Running →
    s.inFlight.find? (fun x => x.owner.isRenderWrite) = some f → f.live = true → s.sweep = some w →
    (s.stack w.slot).state = .rendering →
    let v : State := { s with inFlight := s.inFlight.eraseP fun x => x.owner.isRenderWrite }
    let next : State := { v with sweep := some { slot := w.slot, line := w.line + 1, step := .renderRead0 } }
    (w.line + 1 < (s.stack w.slot).width / 8 →
      (∀ d, exec (.renderWriteDone (.done d)) s = .next next)
      ∧ ∃ u, exec (.renderWriteDone .fault) s = .next u ∧ FaultCounted next u)
    ∧ ((s.stack w.slot).width / 8 ≤ w.line + 1 →
      (∀ d, ∃ u, exec (.renderWriteDone (.done d)) s = .next u
        ∧ RowCompleted [] [] w.slot .rendered .stackRendered v u)
      ∧ ∃ u, exec (.renderWriteDone .fault) s = .next u
        ∧ RowCompleted [.memoryFault] [.memoryFaults] w.slot .rendered .stackRendered v u)

/-- The output pixel of a cell by the first case of R110 that applies, rounding to nearest with ties away from zero; every
pixel is the blank marker, the saturation marker, or a value of the contribution range; and where the mean lies in that
range, as in a cell that placement built, the clamp changes nothing. Word `j` of an output line is the pixel of the cell at
lane `j mod 4` of the pair's first or second cell line (R98, R109). -/
def Obligations.RenderedPixels : Prop :=
  (∀ (Nrej : Nat) (c : Cell),
      let clamped (x : Int) : Int := max (-8388608) (min 8388607 x)
      let inRange (x : Int) (n : Nat) : Prop := -8388608 * (n : Int) ≤ x ∧ x ≤ 8388607 * (n : Int)
      let rejects := Nrej ≠ 0 ∧ Nrej ≤ c.count
      let pixel := renderPixel Nrej c
      (c.count = 0 → c.sat = false → pixel = -2147483648)
      ∧ (c.count = 0 → c.sat = true → pixel = 2147483647)
      ∧ (0 < c.count → rejects → pixel = clamped (roundAway (c.sum - c.peak) (c.count - 1)))
      ∧ (0 < c.count → ¬ rejects → pixel = clamped (roundAway c.sum c.count))
      ∧ (pixel = -2147483648 ∨ pixel = 2147483647 ∨ (-8388608 ≤ pixel ∧ pixel ≤ 8388607))
      ∧ (3 ≤ Nrej → rejects → inRange (c.sum - c.peak) (c.count - 1) →
        pixel = roundAway (c.sum - c.peak) (c.count - 1))
      ∧ (0 < c.count → ¬ rejects → inRange c.sum c.count → pixel = roundAway c.sum c.count))
  ∧ (∀ (x : Int) (d : Nat), 0 < d →
      (0 ≤ x → 2 * (d : Int) * roundAway x d ≤ 2 * x + d ∧ 2 * x + d < 2 * (d : Int) * (roundAway x d + 1))
      ∧ roundAway (-x) d = -roundAway x d)
  ∧ (∀ (Nrej : Nat) (first second : Line) (j : Fin 8),
      bytesAt (pairLine (some (renderLine Nrej first)) (some (renderLine Nrej second))).toNat (4 * j.1) 4
        = unsignedOf 32 (renderPixel Nrej
            (cellOf (laneOf (if j.1 < 4 then first else second) (Fin.ofNat 4 (j.1 % 4))))))

/-! ### The status block -/

/-- A status write's termination (R172 to R174): DONE goes on to the next write; after the trailing copy the rewrite is
complete; FAULT abandons it with REPORT_FAULT and a memory fault counted. At either end a set mark is cleared and the next
rewrite starts; a REPORT_FAULT that was clear then requests one more. The termination of a write that a RESTART has let go
has no effect (R154, R164, R165). -/
def Obligations.StatusWriteTermination : Prop :=
  ∀ (f : InFlight) (s : State), s.Running → s.inFlight.find? (fun x => x.owner == .status) = some f →
    let v : State := { s with inFlight := s.inFlight.eraseP fun x => x.owner == .status }
    let ended : State := if s.mark then { v with mark := false, rewriteCount := s.rewriteCount + 1, rewrite := some 0 }
      else { v with rewrite := none }
    (f.live = false → ∀ result, exec (.statusWriteDone result) s = .next v)
    ∧ (∀ n, f.live = true → s.rewrite = some n →
      (∀ d, n < 87 → exec (.statusWriteDone (.done d)) s = .next { v with rewrite := some (n + 1) })
      ∧ (∀ d, 87 ≤ n → exec (.statusWriteDone (.done d)) s = .next ended)
      ∧ ∃ u, exec (.statusWriteDone .fault) s = .next u
        ∧ u = { ended with
            flags := u.flags, attn := u.attn, counters := u.counters, rewrite := u.rewrite
            rewriteCount := u.rewriteCount, mark := u.mark }
        ∧ FlagsSet [.reportFault] s u ∧ CountersRaised [.memoryFaults] s u
        ∧ RewriteAfter (s.someClear [.reportFault]) ended u)

/-- The 88 writes of a rewrite (R173): the count as a WORD at offset 0x0100, 86 body lines from 0x0120 on without lane
masks, the count again at 0x0FE0. The body holds, at the offsets of R176, the identification word, the engine state, the
last result, the flags, the enables and the attention line; the eight counters; the two stack records; the exposure queue,
head first; the retired list, newest first; the four watch entries; and the 128 progress records (R45, R126). Every byte
of a record without a meaning, and every byte of an empty place, is 0. Results, stack states, slots, flags and counters
stand by their numbers (R97, R166, R170, R176). -/
def Obligations.StatusBlockIsWrittenAsLaidOut : Prop :=
  ∀ s : State,
    let own (addr : Nat) (size : Size) (data : Line) : MemTransfer :=
      { initiator := none, addr := s.controlBase + addr, size := size, op := .write data, mask := none }
    let one (b : Bool) : Nat := if b then 1 else 0
    let signed (bits : Nat) (x : Int) : Nat := (x % 2 ^ bits).toNat
    let slot (k : StackSlot) : Nat := match k with
      | .zero => 0
      | .one => 1
    let result (r : ResultCode) : Nat := match r with
      | .none => 0
      | .ok => 1
      | .badCommand => 2
      | .badParameter => 3
      | .queueFull => 4
      | .duplicateId => 5
      | .noSuchExposure => 6
      | .alreadyEnded => 7
      | .stackState => 8
      | .stackInUse => 9
      | .overlap => 10
      | .inUse => 11
      | .planInvalid => 12
      | .planReadFault => 13
      | .planLost => 14
    let stackState (x : StackState) : Nat := match x with
      | .empty => 0
      | .clearing => 1
      | .openState => 2
      | .rendering => 3
      | .rendered => 4
    let numbered : List (Nat × Flag) :=
      [(1, .memoryFault), (2, .stackFault), (3, .reportFault), (4, .malformedRaw), (5, .blockedWrite),
        (6, .commandRefusedBusy), (7, .exposureCut), (8, .depthOverflow), (9, .biasRowLost), (10, .orphanPixels),
        (11, .watchHit), (12, .exposureDone), (13, .stackRendered), (14, .stackReady), (15, .commandDone)]
    let counted : List (Nat × Counter) :=
      [(0, .orphanPixels), (1, .malformedRaw), (2, .blockedWrites), (3, .memoryFaults), (4, .biasRowsLost),
        (5, .busyRefusals), (6, .shortFrames), (7, .depthOverflows)]
    let cut (r : Option CutReason) : Nat := match r with
      | none => 0
      | some .short => 1
      | some .closed => 2
      | some .stalled => 3
    let outcome (o : Option ExposureOutcome) : Nat := match o with
      | none => 0
      | some o => (if o.cut then 2 else 1) + 128 * one o.degraded
    let tallies (off : Nat) (x : Tallies) : List (Nat × Nat × Nat) :=
      [(off, 4, x.taken), (off + 4, 4, x.offFrame), (off + 8, 4, x.masked), (off + 12, 4, x.saturated),
        (off + 16, 4, x.placed), (off + 20, 4, x.overflow), (off + 24, 4, x.lost), (off + 28, 4, x.degraded)]
    let queued (e : Exposure) : List (Nat × Nat × Nat) :=
      [(0, 2, e.id), (2, 1, slot e.stackSlot),
        (3, 1, match e.state with | .queued => 1 | .reading => 2 | .draining => 3 | .done => 4), (4, 1, cut e.cutReason),
        (5, 1, outcome e.outcome), (6, 1, one e.timer.isSome), (8, 4, e.outstanding), (0x10, 16, e.ended.toNat)]
        ++ tallies 0x20 e.tallies
    let retired (e : Retired) : List (Nat × Nat × Nat) :=
      [(0, 2, e.id), (2, 1, slot e.stackSlot), (3, 1, outcome e.outcome), (4, 1, cut e.cutReason),
        (8, 2, signed 16 e.dx), (0x0A, 2, signed 16 e.dy)] ++ tallies 0x10 e.tallies
    let hit (h : HitRecord) : List (Nat × Nat × Nat) :=
      [(0x0C, 2, h.exposure), (0x10, 2, h.x), (0x12, 2, h.y)]
        ++ match h.value with
          | .add V => [(6, 1, 1), (0x14, 4, signed 32 V)]
          | .sat => [(6, 1, 2)]
    let watched (w : WatchEntry) : List (Nat × Nat × Nat) :=
      [(0, 1, one w.enabled), (1, 1, slot w.stackSlot), (2, 2, w.x), (4, 2, w.y), (8, 4, signed 32 w.threshold),
        (0x0E, 2, w.hitCount)] ++ w.hit.elim [] hit
    let progress (x : Progress) : List (Nat × Nat × Nat) :=
      [(4, 4, x.count), (8, 4, x.B)]
        ++ match x.state with
          | .idle => []
          | .armed id => [(0, 1, 1), (2, 2, id)]
          | .reading id => [(0, 1, 2), (2, 2, id)]
    let lines (m n : Nat) : Nat := (List.range n).foldr (fun j rest => s.bodyLine (m + j) % 2 ^ 256 + 2 ^ 256 * rest) 0
    let head := s.bodyLine 0
    s.statusWrite 0 = own 0x0100 .word (s.rewriteCount.setWidth 256)
    ∧ (∀ m, m < 86 → s.statusWrite (m + 1) = own (0x0120 + 32 * m) .line (BitVec.ofNat 256 (s.bodyLine m)))
    ∧ s.statusWrite 87 = own 0x0FE0 .word (s.rewriteCount.setWidth 256)
    ∧ bytesAt head 0 4 = 0x4A4D0416
    ∧ bytesAt head 4 1 = (if s.engine = .idle then 0 else 1)
    ∧ bytesAt head 5 1 = s.last.tag.toNat ∧ bytesAt head 6 1 = s.last.code.toNat
    ∧ bytesAt head 7 1 = result s.last.result ∧ bytesAt head 8 2 = s.last.detail % 65536
    ∧ bytesAt head 12 4 = s.flags.toNat ∧ bytesAt head 16 4 = s.enables.toNat
    ∧ (∀ n f, (n, f) ∈ numbered → s.flagSet f = (bytesAt head 12 4).testBit (n - 1) ∧ f.mask.toNat = 2 ^ (n - 1))
    ∧ (bytesAt head 20 4).testBit 0 = s.attn ∧ bytesAt head 21 1 = s.level.toNat ∧ bytesAt head 22 1 = s.base.toNat
    ∧ (∀ n c, (n, c) ∈ counted → bytesAt (s.bodyLine 1) (4 * n) 4 = (s.counter c).toNat)
    ∧ (∀ k : StackSlot,
      let r := s.stack k
      LaidOut (s.bodyLine (2 + slot k)) 32
        [(0, 8, r.cellBase), (8, 8, r.outputBase), (0x10, 2, r.width), (0x12, 2, r.height), (0x14, 2, r.cursor),
          (0x16, 1, r.Nrej), (0x17, 1, stackState r.state), (0x18, 1, r.refCount), (0x19, 1, slot k)])
    ∧ (∀ i, i < 4 → LaidOut (lines (4 + 2 * i) 2) 64 (s.queue[i]?.elim [] queued))
    ∧ (∀ i, i < 4 → LaidOut (bytesAt (lines 12 6) (48 * i) 48) 48 (s.retired[i]?.elim [] retired))
    ∧ (∀ i : Fin 4, LaidOut (s.bodyLine (18 + i.1)) 32 (watched s.watch[i]))
    ∧ (∀ i : SegIdx, LaidOut (bytesAt (s.bodyLine (22 + i.1 / 2)) (16 * (i.1 % 2)) 16) 16 (progress s.progress[i]))

/-! ### The arbiter -/

/-- A grant with no lock (R147): it goes to the class with something grantable, and with both to the class that turn
names; turn then names the other, and the transfer is issued; a copy granted becomes HANDED, and the placement engine
presents its next write due. A grant to the internal class moves the sweep wait count (R148): to 0 at a sweep, or with no
sweep grantable, and otherwise up by one. The choice within the classes: a copy before the C-port's transfer (R149);
report writer, command reader, placement engine, flat fetcher, sweep engine, but for a grantable sweep whose wait count
stands at 15. A sweep transfer is grantable exactly when it is presented and neither a forward transfer nor an unwritten
copy touches its line (R150). -/
def Obligations.ArbiterGrantsByTurnAndOrder : Prop :=
  (∀ (g : Owner × MemTransfer) (s : State), s.Running → s.initialLead = false → s.restartDraining = false →
      s.lockState = .free →
      let issued : State := { s with inFlight := s.inFlight ++ [{ owner := g.1, transfer := g.2, live := true }] }
      let after : State := match g.1 with
        | .copy slot => (issued.updateSlot slot fun sl => { sl with copy := .handed }).settleIntake
        | .placement _ => { issued with placePresented := none }.presentWrite
        | _ => issued
      (s.forwardGrant = some g → (s.internalGrant = none ∨ s.turn = .forward) →
        exec .arbiterGrant s = .next { after with turn := .internal })
      ∧ (s.internalGrant = some g → (s.forwardGrant = none ∨ s.turn = .internal) →
        exec .arbiterGrant s = .next { after with
          turn := .forward
          sweepWait := if g.1.isSweep then 0 else if s.sweepGrant.isSome then min 15 (s.sweepWait + 1) else 0 })
      ∧ (s.forwardGrant = none → s.internalGrant = none → exec .arbiterGrant s = .next s))
  ∧ (∀ s : State,
      (∀ g, s.copyGrant = some g → s.forwardGrant = some g)
      ∧ (s.copyGrant = none → s.forwardGrant = s.forwardRequest.map fun x => (.forward, x))
      ∧ (∀ g, s.sweepWait = 15 → s.sweepGrant = some g → s.internalGrant = some g)
      ∧ (¬ (s.sweepWait = 15 ∧ s.sweepGrant.isSome) →
        (∀ g, s.statusRequest = some g → s.internalGrant = some g)
        ∧ (s.statusRequest = none →
          (∀ g, s.commandRequest = some g → s.internalGrant = some g)
          ∧ (s.commandRequest = none →
            (∀ g, s.placementRequest = some g → s.internalGrant = some g)
            ∧ (s.placementRequest = none →
              (∀ g, s.flatGrant = some g → s.internalGrant = some g)
              ∧ (s.flatGrant = none → s.internalGrant = s.sweepGrant)))))
      ∧ (∀ g, s.sweepGrant = some g ↔ s.sweepRequest = some g ∧ s.forwardTouches g.2.addr = false))

/-- What each requester presents (R146), RESET released. The C-port: its forwarded transfer unchanged (R131). The keep-raw
copier: the oldest WAITING slot's whole raw transfer (R61), grantable unless an earlier copy that overlaps it is in flight
(R149). The report writer: the next write of the rewrite. The command reader: the parameter block's two lines (R158), or
those of a plan table record (R6, R7). The placement engine: the read of a READING entry's line, or the masked write of a
WRITING entry's image (R86, R87). The flat fetcher: the first PENDING line not in flight, in take order (R63). The sweep
engine: a clear write of zeros with all lanes named (R105), or the reads and the write of an output line (R109), kept back
while a forward transfer or an unwritten copy touches its line (R150). A requester whose transfer is in flight presents no
other, but for the copier, the placement engine and the flat fetcher. -/
def Obligations.RequestersPresentTheirTransfers : Prop :=
  ∀ s : State, s.resetAsserted = false →
    let read (addr : Nat) : MemTransfer := { initiator := none, addr := addr, size := .line, op := .read, mask := none }
    let write (addr : Nat) (data : Line) (mask : Option (BitVec 4)) : MemTransfer :=
      { initiator := none, addr := addr, size := .line, op := .write data, mask := mask }
    let touches (x : MemTransfer) (line : Nat) : Prop :=
      (∀ level, x.op ≠ .acknowledge level) ∧ overlaps x.addr x.size.bytes line 32 = true
    let flying (o : Owner) : Prop := ∃ f ∈ s.inFlight, f.owner = o
    let due (sl : IntakeSlot) (g : FlatLine) : Prop :=
      g.status = .pending ∧ ∀ f ∈ s.inFlight, ¬ (f.owner = .flat sl.tag ∧ f.transfer.addr = g.addr)
    let sweeps := ∃ f ∈ s.inFlight, f.owner.isSweep = true
    (∀ t, s.current = some { transfer := t, stage := .forwarding } →
      (¬ flying .forward → s.forwardRequest = some
        { initiator := some t.initiator, addr := t.start, size := t.size, op := t.op, mask := none })
      ∧ (flying .forward → s.forwardRequest = none))
    ∧ ((∀ t, s.current ≠ some { transfer := t, stage := .forwarding }) → s.forwardRequest = none)
    ∧ (∀ sl older newer, s.intake = older ++ sl :: newer → sl.copy = .waiting → (∀ x ∈ older, x.copy ≠ .waiting) →
      ∃ d : Line, s.copyRequest
          = some (.copy sl.tag, { initiator := none, addr := sl.addr, size := sl.size, op := .write d, mask := none })
        ∧ ∀ j px, j < 16 → sl.pixels[j]? = some px → bytesAt d.toNat (2 * j) 2 = px.raw % 65536)
    ∧ ((∀ sl ∈ s.intake, sl.copy ≠ .waiting) → s.copyRequest = none)
    ∧ (∀ g, s.copyGrant = some g ↔ s.copyRequest = some g ∧ ∀ f ∈ s.inFlight, ∀ slot, f.owner = .copy slot →
      overlaps f.transfer.addr f.transfer.size.bytes g.2.addr g.2.size.bytes = false)
    ∧ (∀ n, s.rewrite = some n → ¬ flying .status → s.statusRequest = some (.status, s.statusWrite n))
    ∧ (s.rewrite = none ∨ flying .status → s.statusRequest = none)
    ∧ (∀ c phase, s.engine = .executing c phase → ¬ flying .command →
      (∀ first, phase = .params first →
        s.commandRequest = some (.command, read (s.controlBase + if first.isSome then 0x0060 else 0x0040)))
      ∧ (∀ (i : SegIdx) first, ((∃ windows, phase = .planCheck i first windows) ∨ phase = .planInstall i first) →
        s.commandRequest
          = some (.command, read (s.controlBase + 0x1000 + 64 * i.1 + if first.isSome then 32 else 0))))
    ∧ (s.engine = .idle ∨ (∃ c was, s.engine = .executing c (.discarding was)) ∨ s.restartDraining = true
      ∨ flying .command → s.commandRequest = none)
    ∧ (∀ tag e, s.placePresented = some tag → s.entry? tag = some e →
      (e.state = .reading → s.placementRequest = some (.placement tag, read e.line))
      ∧ (∀ image fates, e.state = .writing image fates →
        s.placementRequest = some (.placement tag, write e.line image (some (laneMask e.lanes)))))
    ∧ (s.placePresented = none → s.placementRequest = none)
    ∧ (∀ sl older newer g before_ after, s.intake = older ++ sl :: newer → sl.flats = before_ ++ g :: after → due sl g →
      (∀ x ∈ older, ∀ h ∈ x.flats, ¬ due x h) → (∀ h ∈ before_, ¬ due sl h) →
      s.flatGrant = some (.flat sl.tag, read g.addr))
    ∧ ((∀ sl ∈ s.intake, ∀ g ∈ sl.flats, ¬ due sl g) → s.flatGrant = none)
    ∧ (∀ w, s.sweep = some w → ¬ sweeps →
      let r := s.stack w.slot
      let row (perPixel : Nat) : Nat := r.cursor * r.width * perPixel
      (w.step = .clear → s.sweepRequest
        = some (.clear w.slot, write (r.cellBase + row 8 + 32 * w.line) 0 (some (BitVec.ofNat 4 15))))
      ∧ (w.step = .renderRead0 → s.sweepRequest
        = some (.renderRead w.slot, read (r.cellBase + row 8 + 32 * (2 * w.line))))
      ∧ (∀ lo, w.step = .renderRead1 lo → s.sweepRequest
        = some (.renderRead w.slot, read (r.cellBase + row 8 + 32 * (2 * w.line + 1))))
      ∧ (∀ line, w.step = .renderWrite line → s.sweepRequest
        = some (.renderWrite w.slot, write (r.outputBase + row 4 + 32 * w.line) line none)))
    ∧ (s.sweep = none ∨ sweeps → s.sweepRequest = none)
    ∧ (∀ line, s.forwardTouches line = true ↔
      (∃ x, s.forwardRequest = some x ∧ touches x line)
        ∨ (∃ f ∈ s.inFlight, f.owner = .forward ∧ touches f.transfer line)
        ∨ (∃ sl ∈ s.intake, sl.copy = .waiting ∧ overlaps sl.addr sl.size.bytes line 32 = true)
        ∨ ∃ f ∈ s.inFlight, (∃ slot, f.owner = .copy slot)
          ∧ overlaps f.transfer.addr f.transfer.size.bytes line 32 = true)

/-- The port's first grant after a reset is the leading copy of the initial rewrite, whatever else is presented (R155): a
WORD write of the rewrite count at offset 0x0100. That it goes before a LOCKED read that waits in DRAINING too is the model's
choice (log entry 8). During a locked sequence (R151) DRAINING grants nothing while a transfer is
in flight; then the LOCKED read is granted and the state is HELD, in which only the C-port's transfers are granted, turn and
the sweep wait count standing still. -/
def Obligations.LeadingCopyAndLockedSequenceGoAlone : Prop :=
  (∀ s : State, s.Running → s.initialLead = true → s.restartDraining = false → s.rewrite = some 0 →
      s.inFlightFor .status = false →
      exec .arbiterGrant s = .next { s with
        inFlight := s.inFlight ++ [{
          owner := .status, live := true
          transfer := { initiator := none, addr := s.controlBase + 0x0100, size := .word
                        op := .write (s.rewriteCount.setWidth 256), mask := none } }]
        initialLead := false, turn := .forward, sweepWait := s.waitAfter .status })
  ∧ (∀ s : State, s.Running → s.initialLead = false → s.restartDraining = false →
      (s.lockState = .draining → s.inFlight ≠ [] → exec .arbiterGrant s = .next s)
      ∧ (∀ x, s.lockState = .draining → s.inFlight = [] → s.forwardRequest = some x →
        exec .arbiterGrant s = .next { s with
          lockState := .held, inFlight := [{ owner := .forward, transfer := x, live := true }] })
      ∧ (∀ x, s.lockState = .held → s.forwardRequest = some x →
        exec .arbiterGrant s = .next { s with
          inFlight := s.inFlight ++ [{ owner := .forward, transfer := x, live := true }] })
      ∧ (s.lockState = .held → s.forwardRequest = none → exec .arbiterGrant s = .next s))

/-! ### The command engine -/

/-- A command word written while the engine is IDLE (R157) is forwarded, and acts at its take: with a code from 1 to 10 the
engine captures code, tag and argument, becomes EXECUTING, and its first read of the parameter block is due (R158); with any
other code the command ends at once with BAD_COMMAND, its detail the code, and no parameter read. The word holds the code in
bits 7 to 0, the tag in bits 15 to 8 and the argument in bits 31 to 16, and is written at the strapped base (R156, R176). -/
def Obligations.CommandWordIsCapturedInIdle : Prop :=
  (∀ (command : BitVec 3 → BitVec 8 → BitVec 16 → Instr) (code : CommandCode) (initiator : BitVec 3) (tag : BitVec 8)
      (arg : BitVec 16) (s : State),
      (command, code) ∈ [(Instr.loadPlan, CommandCode.loadPlan), (Instr.openStack, CommandCode.openStack),
        (Instr.renderStack, CommandCode.renderStack), (Instr.discardStack, CommandCode.discardStack),
        (Instr.openExposure, CommandCode.openExposure), (Instr.closeExposure, CommandCode.closeExposure),
        (Instr.setWatch, CommandCode.setWatch), (Instr.setEnables, CommandCode.setEnables),
        (Instr.report, CommandCode.report), (Instr.restart, CommandCode.restart)] →
      let t := s.controlWrite initiator 0 (commandWord (BitVec.ofNat 8 code.number) tag arg)
      s.Running → s.PortFree → s.ControlLineClear t → s.engine = .idle →
      exec (command initiator tag arg) s = .next { s with
        current := some { transfer := t, stage := .forwarding }
        engine := .executing { code := code, tag := tag, arg := arg } (.params none) })
  ∧ (∀ (initiator : BitVec 3) (code tag : BitVec 8) (arg : BitVec 16) (s : State),
      let t := s.controlWrite initiator 0 (commandWord code tag arg)
      s.Running → s.PortFree → s.ControlLineClear t → s.engine = .idle → (code.toNat = 0 ∨ 11 ≤ code.toNat) →
      ∃ u, exec (.badCommand initiator code tag arg) s = .next u
        ∧ EndedWith code tag .badCommand code.toNat { s with current := some { transfer := t, stage := .forwarding } } u)
  ∧ (∀ (initiator : BitVec 3) (code tag : BitVec 8) (arg : BitVec 16) (s : State),
      s.controlWrite initiator 0 (commandWord code tag arg)
        = { initiator := initiator, addr := BitVec.ofNat 40 (s.base.toNat * 0x08000000), size := .word
            op := .write (BitVec.ofNat 256 (code.toNat + 2 ^ 8 * tag.toNat + 2 ^ 16 * arg.toNat)) })

/-- A command word written while the engine is EXECUTING is refused busy, whatever its code (R159): the write is forwarded,
the current command goes on, COMMAND_REFUSED_BUSY is set and the busy-refusal counter rises, and no result is recorded. -/
def Obligations.CommandWordIsRefusedBusy : Prop :=
  ∀ (initiator : BitVec 3) (code tag : BitVec 8) (arg : BitVec 16) (c : CurrentCommand) (phase : Phase) (s : State),
    let t := s.controlWrite initiator 0 (commandWord code tag arg)
    s.Running → s.PortFree → s.ControlLineClear t → s.engine = .executing c phase →
    ∃ u, exec (.cameraTransfer t) s = .next u
      ∧ u = { s with
          current := some { transfer := t, stage := .forwarding }, flags := u.flags, attn := u.attn
          counters := u.counters, rewrite := u.rewrite, rewriteCount := u.rewriteCount, mark := u.mark }
      ∧ FlagsSet [.commandRefusedBusy] s u ∧ CountersRaised [.busyRefusals] s u
      ∧ RewriteAfter (s.someClear [.commandRefusedBusy]) s u

/-- The parameter reads (R158): the first DONE is kept and the second read is due; a FAULT of either ends the command with
BAD_PARAMETER, detail 271, MEMORY_FAULT and a memory fault counted. -/
def Obligations.ParameterReadsOrBadParameter : Prop :=
  ∀ (c : CurrentCommand) (first : Option Line) (s : State), s.Running → s.engine = .executing c (.params first) →
    s.inFlightFor .command = true →
    (∀ line, first = none →
      exec (.parameterReadDone (.done line)) s
        = .next { s.commandLanded with engine := .executing c (.params (some line)) })
    ∧ ∃ u, exec (.parameterReadDone .fault) s = .next u
      ∧ u = { s.commandLanded with
          last := { tag := c.tag, code := BitVec.ofNat 8 c.code.number, result := .badParameter, detail := 271 }
          engine := .idle, flags := u.flags, attn := u.attn, counters := u.counters, rewrite := u.rewrite
          rewriteCount := u.rewriteCount, mark := u.mark }
      ∧ FlagsSet [.memoryFault, .commandDone] s u ∧ CountersRaised [.memoryFaults] s u ∧ RewriteAfter true s u

/-- OPEN_EXPOSURE: its parameters are read as R176 lays them out, from offset 0x40 on. The first check of R23 that fails
ends the command with its result and detail, and nothing else of the queue, the stacks or the progress records changes.
With none (R24) the exposure joins the tail QUEUED with nothing taken, its stack's reference count rises, each IDLE record
of its set becomes ARMED for it, and the command ends OK with the number of records queued. -/
def Obligations.OpenExposureIsCheckedAndAccepted : Prop :=
  (∀ (c : CurrentCommand) (first second : Line) (s : State), s.Running → s.Awaits c first → c.code = .openExposure →
      let p := exposureParams (block first second)
      let at_ := blockField first second
      let id := c.arg.toNat
      let ends (r : ResultCode) (detail : Nat) : Prop :=
        ∃ u, exec (.parameterReadDone (.done second)) s = .next u ∧ EndedWith 5 c.tag r detail s.commandLanded u
      let ok1 := id ≠ 0
      let ok2 := ok1 ∧ s.queue.length < 4
      let ok3 := ok2 ∧ ∀ e ∈ s.queue, e.id ≠ id
      (p.slot = at_ 0x00 1 ∧ p.dx = blockSigned first second 0x02 2 ∧ p.dy = blockSigned first second 0x04 2
        ∧ p.E = at_ 0x06 2 ∧ p.stallTimeout = at_ 0x08 2
        ∧ ∀ i : SegIdx, p.segSet.getLsbD i.1 = (at_ (0x10 + i.1 / 8) 1).testBit (i.1 % 8))
      ∧ (¬ ok1 → ends .badParameter 256)
      ∧ (ok1 → 4 ≤ s.queue.length → ends .queueFull 4)
      ∧ (ok2 → (∃ e ∈ s.queue, e.id = id) → ends .duplicateId id)
      ∧ (ok3 → 1 < p.slot → ends .badParameter 257)
      ∧ (∀ k : StackSlot, ok3 → p.slot = k.number →
        ((s.stack k).state ≠ .openState → ends .stackState k.number)
        ∧ ((s.stack k).state = .openState →
          (p.E = 0 → ends .badParameter 258)
          ∧ (p.E ≠ 0 →
            (p.dx < -8192 ∨ 8191 < p.dx → ends .badParameter 259)
            ∧ (-8192 ≤ p.dx → p.dx ≤ 8191 →
              (p.dy < -8192 ∨ 8191 < p.dy → ends .badParameter 260)
              ∧ (-8192 ≤ p.dy → p.dy ≤ 8191 →
                (p.segSet = 0 → ends .badParameter 261)
                ∧ ∀ i : SegIdx, p.segSet.getLsbD i.1 = true → s.segs[i].valid = false →
                  (∀ j : SegIdx, j < i → p.segSet.getLsbD j.1 = true → s.segs[j].valid = true) →
                  ends .badParameter i.1))))))
  ∧ (∀ (c : CurrentCommand) (first second : Line) (k : StackSlot) (s : State), s.Running → s.Awaits c first →
      c.code = .openExposure →
      let p := exposureParams (block first second)
      c.arg.toNat ≠ 0 → s.queue.length < 4 → (∀ e ∈ s.queue, e.id ≠ c.arg.toNat) → p.slot = k.number →
      (s.stack k).state = .openState → p.E ≠ 0 → -8192 ≤ p.dx → p.dx ≤ 8191 → -8192 ≤ p.dy → p.dy ≤ 8191 →
      p.segSet ≠ 0 → (∀ i : SegIdx, p.segSet.getLsbD i.1 = true → s.segs[i].valid = true) →
      ∃ v u, exec (.parameterReadDone (.done second)) s = .next u
        ∧ v = { s.commandLanded.setStack k { s.stack k with refCount := (s.stack k).refCount + 1 } with
            queue := s.queue ++ [{
              id := c.arg.toNat, stackSlot := k, dx := p.dx, dy := p.dy, E := p.E, stallTimeout := p.stallTimeout
              segSet := p.segSet, state := .queued, cutReason := none, outcome := none, ended := 0, outstanding := 0
              timer := none
              tallies := { taken := 0, offFrame := 0, masked := 0, saturated := 0, placed := 0, overflow := 0, lost := 0
                           degraded := 0 } }]
            progress := v.progress }
        ∧ (∀ i : SegIdx, v.progress[i]
          = if p.segSet.getLsbD i.1 = true ∧ s.progress[i].state = .idle then
              { s.progress[i] with state := .armed c.arg.toNat, count := 0 }
            else s.progress[i])
        ∧ EndedWith 5 c.tag .ok (s.queue.length + 1) v u)

/-- CLOSE_EXPOSURE (R27): an unknown id ends with NO_SUCH_EXPOSURE, a DRAINING or DONE exposure with ALREADY_ENDED; a QUEUED
or READING one is cut with reason CLOSED, tested for DONE (R25), and the command ends OK with the number of segments that
the close ended, 1 to 128. Its retirements request their rewrites one by one (log entry 4). -/
def Obligations.CloseExposureCutsOrRefuses : Prop :=
  ∀ (c : CurrentCommand) (first second : Line) (s : State), s.Running → s.LedgerBalances → s.Awaits c first →
    c.code = .closeExposure →
    ((∀ e ∈ s.queue, e.id ≠ c.arg.toNat) →
      ∃ u, exec (.parameterReadDone (.done second)) s = .next u
        ∧ EndedWith 6 c.tag .noSuchExposure 0 s.commandLanded u)
    ∧ (∀ e ∈ s.queue, e.id = c.arg.toNat →
      (e.state = .draining ∨ e.state = .done →
        ∃ u, exec (.parameterReadDone (.done second)) s = .next u
          ∧ EndedWith 6 c.tag .alreadyEnded 0 s.commandLanded u)
      ∧ (e.state = .queued ∨ e.state = .reading →
        ∃ u, exec (.parameterReadDone (.done second)) s = .next u
          ∧ (let n := ((List.finRange 128).filter fun i => e.segSet.getLsbD i.1 && !e.ended.getLsbD i.1).length
            let v := (s.commandLanded.withCut e.id .closed).testDone e.id
            1 ≤ n ∧ n ≤ 128
              ∧ EndedAsking (max 1 v.retirements) 6 c.tag .ok n { v with requested := false, retirements := 0 } u)))

/-- OPEN_STACK (R101 to R103): its parameters are read as R176 lays them out; the first check of R101 that fails ends the
command with its result and detail; with none, the slot's record is set as given, CLEARING at cursor 0, an idle sweep
engine begins its row 0 at once (R104), and the command ends OK with the slot. The overlaps of check 9 are those of R102,
in order: the two new regions; a region of the other slot's stack when that is not EMPTY; the control area; and the raw
window of a valid segment, the lowest giving the detail. -/
def Obligations.OpenStackIsCheckedAndAccepted : Prop :=
  (∀ (c : CurrentCommand) (first second : Line) (s : State), s.Running → s.Awaits c first → c.code = .openStack →
      let p := stackParams (block first second)
      let at_ := blockField first second
      let v := s.commandLanded
      let ends (r : ResultCode) (detail : Nat) (v : State) : Prop :=
        ∃ u, exec (.parameterReadDone (.done second)) s = .next u ∧ EndedWith 2 c.tag r detail v u
      p = { cellBase := at_ 0x00 8, outputBase := at_ 0x08 8, width := at_ 0x10 2, height := at_ 0x12 2, Nrej := at_ 0x14 1 }
      ∧ (1 < c.arg.toNat → ends .badParameter 257 v)
      ∧ (∀ k : StackSlot, c.arg.toNat = k.number →
        let fits := p.cellBase + p.width * p.height * 8 ≤ 2 ^ 40 ∧ p.outputBase + p.width * p.height * 4 ≤ 2 ^ 40
        ((s.stack k).state ∈ [.clearing, .openState, .rendering] → ends .stackState k.number v)
        ∧ ((s.stack k).state ∈ [.empty, .rendered] →
          (p.cellBase % 32 ≠ 0 → ends .badParameter 262 v)
          ∧ (p.cellBase % 32 = 0 →
            (p.outputBase % 32 ≠ 0 → ends .badParameter 263 v)
            ∧ (p.outputBase % 32 = 0 →
              (¬ (8 ≤ p.width ∧ p.width ≤ 16384 ∧ p.width % 8 = 0) → ends .badParameter 264 v)
              ∧ (8 ≤ p.width → p.width ≤ 16384 → p.width % 8 = 0 →
                (¬ (1 ≤ p.height ∧ p.height ≤ 16384) → ends .badParameter 265 v)
                ∧ (1 ≤ p.height → p.height ≤ 16384 →
                  (p.Nrej = 1 ∨ p.Nrej = 2 ∨ 63 < p.Nrej → ends .badParameter 266 v)
                  ∧ (p.Nrej = 0 ∨ 3 ≤ p.Nrej ∧ p.Nrej ≤ 63 →
                    (¬ fits → ends .badParameter 267 v)
                    ∧ (fits →
                      (∀ d, s.overlapDetail k p = some d → ends .overlap d v)
                      ∧ (s.overlapDetail k p = none →
                        let opened := v.setStack k
                          { state := .clearing, cellBase := p.cellBase, outputBase := p.outputBase, width := p.width
                            height := p.height, Nrej := p.Nrej, cursor := 0, refCount := 0 }
                        ends .ok k.number { opened with
                          sweep := if s.sweep = none ∧ s.sweepInFlight = false then
                              some { slot := k, line := 0, step := .clear }
                            else s.sweep }))))))))))
  ∧ (∀ (k : StackSlot) (p : StackParams) (s : State),
      let meet (a la b lb : Nat) : Prop := ∃ x, a ≤ x ∧ x < a + la ∧ b ≤ x ∧ x < b + lb
      let cells := p.width * p.height * 8
      let pixels := p.width * p.height * 4
      let meets (b lb : Nat) : Prop := meet p.cellBase cells b lb ∨ meet p.outputBase pixels b lb
      let o := s.stack k.other
      let no1 := ¬ meet p.cellBase cells p.outputBase pixels
      let met2 := o.state ≠ .empty
        ∧ (meets o.cellBase (o.width * o.height * 8) ∨ meets o.outputBase (o.width * o.height * 4))
      let met3 := meets (s.base.toNat * 0x08000000) 65536
      let met4 (i : SegIdx) : Prop := s.segs[i].valid = true ∧ meets s.segs[i].rawBase s.segs[i].windowSize
      (¬ no1 → s.overlapDetail k p = some 1)
      ∧ (no1 → met2 → s.overlapDetail k p = some 2)
      ∧ (no1 → ¬ met2 → met3 → s.overlapDetail k p = some 3)
      ∧ (∀ i : SegIdx, no1 → ¬ met2 → ¬ met3 → met4 i → (∀ j : SegIdx, j < i → ¬ met4 j) →
        s.overlapDetail k p = some (256 + i.1))
      ∧ (no1 → ¬ met2 → ¬ met3 → (∀ i : SegIdx, ¬ met4 i) → s.overlapDetail k p = none))

/-- RENDER_STACK (R108): checked in order; accepted, the stack is RENDERING at cursor 0, an idle sweep engine begins its
row 0 at once (R104), and the command ends OK with the slot. -/
def Obligations.RenderStackIsCheckedAndAccepted : Prop :=
  ∀ (c : CurrentCommand) (first second : Line) (s : State), s.Running → s.Awaits c first → c.code = .renderStack →
    let v := s.commandLanded
    let ends (r : ResultCode) (detail : Nat) (v : State) : Prop :=
      ∃ u, exec (.parameterReadDone (.done second)) s = .next u ∧ EndedWith 3 c.tag r detail v u
    (1 < c.arg.toNat → ends .badParameter 257 v)
    ∧ (∀ k : StackSlot, c.arg.toNat = k.number →
      ((s.stack k).state ≠ .openState → ends .stackState k.number v)
      ∧ ((s.stack k).state = .openState → 0 < (s.stack k).refCount → ends .stackInUse (s.stack k).refCount v)
      ∧ ((s.stack k).state = .openState → (s.stack k).refCount = 0 →
        ends .ok k.number { v.setStack k { s.stack k with state := .rendering, cursor := 0 } with
          sweep := if s.sweep = none ∧ s.sweepInFlight = false then
              some { slot := k, line := 0, step := .renderRead0 }
            else s.sweep }))

/-- DISCARD_STACK (R114, R115): refused for a bad slot or a stack in use; accepted, the stack is EMPTY at once and keeps its
other fields. With a transfer of its sweep in flight the command waits for it, the transfer let go; otherwise it ends OK
with the state the stack held, a presented transfer of its sweep withdrawn and the other stack's row taken up (R104). The
termination of a transfer let go moves no flag, counter or cursor (R115, R118): an idle sweep engine takes up a sweep in
progress, and the DISCARD_STACK that waited ends OK. -/
def Obligations.DiscardStackStopsItsSweep : Prop :=
  (∀ (c : CurrentCommand) (first second : Line) (s : State), s.Running → s.Awaits c first → c.code = .discardStack →
      let v := s.commandLanded
      let ends (r : ResultCode) (detail : Nat) (v : State) : Prop :=
        ∃ u, exec (.parameterReadDone (.done second)) s = .next u ∧ EndedWith 4 c.tag r detail v u
      (1 < c.arg.toNat → ends .badParameter 257 v)
      ∧ (∀ k : StackSlot, c.arg.toNat = k.number →
        let was : Nat := match (s.stack k).state with
          | .empty => 0
          | .clearing => 1
          | .openState => 2
          | .rendering => 3
          | .rendered => 4
        let emptied : State := v.setStack k { s.stack k with state := .empty }
        let flying := v.inFlight.any fun f => f.live && f.owner.sweepOf k
        (0 < (s.stack k).refCount → ends .stackInUse (s.stack k).refCount v)
        ∧ ((s.stack k).refCount = 0 → flying = true →
          ∃ u, exec (.parameterReadDone (.done second)) s = .next u
            ∧ u = { emptied with
                sweep := none, engine := .executing c (.discarding was)
                inFlight := v.inFlight.map fun f => if f.owner.sweepOf k then { f with live := false } else f
                rewrite := u.rewrite, rewriteCount := u.rewriteCount, mark := u.mark }
            ∧ RewriteAfter true s u)
        ∧ ((s.stack k).refCount = 0 → flying = false → (∀ w, s.sweep = some w → w.slot ≠ k) → ends .ok was emptied)
        ∧ ((s.stack k).refCount = 0 → flying = false → (∃ w, s.sweep = some w ∧ w.slot = k) →
          ends .ok was { emptied with sweep := emptied.nextRow k, sweepWait := 0 })))
  ∧ (∀ (command : Termination → Instr) (mine : Owner → Bool) (f : InFlight) (result : Termination) (s : State),
      (command = .clearWriteDone ∧ mine = Owner.isClear) ∨ (command = .renderReadDone ∧ mine = Owner.isRenderRead)
        ∨ (command = .renderWriteDone ∧ mine = Owner.isRenderWrite) →
      s.Running → s.inFlight.find? (fun x => mine x.owner) = some f → f.live = false → s.sweep = none →
      let v : State := { s with
        inFlight := s.inFlight.eraseP fun x => mine x.owner, sweep := s.nextRow .one }
      ((∀ c was, s.engine ≠ .executing c (.discarding was)) → exec (command result) s = .next v)
      ∧ (∀ c was, s.engine = .executing c (.discarding was) →
        ∃ u, exec (command result) s = .next u ∧ EndedWith (BitVec.ofNat 8 c.code.number) c.tag .ok was v u))

/-- SET_WATCH (R121, R122): its parameters are read as R176 lays them out and checked in order; accepted, entry `arg`
takes the block's fields with no hit, the others and the WATCH_HIT flag stay, and the command ends OK with the entry's
index. -/
def Obligations.SetWatchIsCheckedAndReplaces : Prop :=
  ∀ (c : CurrentCommand) (first second : Line) (s : State), s.Running → s.Awaits c first → c.code = .setWatch →
    let p := watchParams (block first second)
    let at_ := blockField first second
    let v := s.commandLanded
    let bad (x : Nat) : Prop := 16384 ≤ x ∧ x ≤ 0xBFFF
    let ends (r : ResultCode) (detail : Nat) (v : State) : Prop :=
      ∃ u, exec (.parameterReadDone (.done second)) s = .next u ∧ EndedWith 7 c.tag r detail v u
    p = { enabled := at_ 0x00 1 % 2 == 1, slot := at_ 0x01 1, x := at_ 0x02 2, y := at_ 0x04 2
          threshold := blockSigned first second 0x08 4 }
    ∧ (3 < c.arg.toNat → ends .badParameter 268 v)
    ∧ (c.arg.toNat ≤ 3 → 1 < p.slot → ends .badParameter 257 v)
    ∧ (c.arg.toNat ≤ 3 → p.slot ≤ 1 → bad p.x → ends .badParameter 269 v)
    ∧ (c.arg.toNat ≤ 3 → p.slot ≤ 1 → ¬ bad p.x → bad p.y → ends .badParameter 270 v)
    ∧ (∀ k : StackSlot, c.arg.toNat ≤ 3 → p.slot = k.number → ¬ bad p.x → ¬ bad p.y →
      ∃ w, w = { v with watch := w.watch } ∧ ends .ok c.arg.toNat w
        ∧ ∀ i : Fin 4, w.watch[i]
          = if i.1 = c.arg.toNat then
              { enabled := p.enabled, stackSlot := k, x := p.x, y := p.y, threshold := p.threshold, hit := none
                hitCount := 0 }
            else s.watch[i])

/-- SET_ENABLES replaces the whole mask by bits 14 to 0 of the argument, the attention line following, and ends OK with the
mask (R162); REPORT ends OK with detail 0, its end requesting the rewrite (R163). -/
def Obligations.SetEnablesAndReport : Prop :=
  ∀ (c : CurrentCommand) (first second : Line) (s : State), s.Running → s.Awaits c first →
    let v := s.commandLanded
    let mask : BitVec 15 := c.arg.setWidth 15
    (c.code = .setEnables →
      ∃ u, exec (.parameterReadDone (.done second)) s = .next u
        ∧ EndedWith 8 c.tag .ok mask.toNat { v with enables := mask, attn := attention v.flags mask } u)
    ∧ (c.code = .report →
      ∃ u, exec (.parameterReadDone (.done second)) s = .next u ∧ EndedWith 9 c.tag .ok 0 v u)

/-- RESTART takes effect (R164, R144, R155): a held transfer, and a forwarded one not yet granted, is given RETRY; every
block takes its pin-reset value; the transfers in flight stay, all but a forwarded one let go; no rewrite is in progress;
the straps, the turn and, unless a presented sweep transfer is withdrawn (R148), the sweep wait count stay until the end,
and so does the last result, by the model's choice (log entry 18). It ends once the in-flight set is empty (R165): the
arbiter takes its reset values, lock state NONE among them, the command ends OK, and the initial rewrite starts with the
mark clear and its leading copy due first. A lock record that a LOCKED read opened during the drain stays, the read
waiting presented (log entry 8). -/
def Obligations.RestartTakesEffectAndEnds : Prop :=
  (∀ (c : CurrentCommand) (first second : Line) (s : State), s.Running → s.Awaits c first → c.code = .restart →
      let inFlight := s.commandLanded.inFlight
      let retried : Option Transfer := match s.current with
        | none => none
        | some x => if x.stage = .forwarding ∧ (inFlight.any fun f => f.owner == .forward) then none else some x.transfer
      exec (.parameterReadDone (.done second)) s = .next { State.pinReset s.base s.level with
        current := if retried.isSome then none else s.current
        answers := match retried with
          | some t => (t, .retry) :: s.answers
          | none => s.answers
        inFlight := inFlight.map fun f => if f.owner = .forward then f else { f with live := false }
        engine := .executing c .draining, last := s.last, turn := s.turn
        sweepWait := if s.sweep.isSome ∧ ¬ (inFlight.any fun f => f.owner.isSweep) then 0 else s.sweepWait
        nextSlot := s.nextSlot, nextEntry := s.nextEntry, pending := s.pending })
  ∧ (∀ (c : CurrentCommand) (s : State), s.Running → s.engine = .executing c .draining →
      (s.inFlight = [] →
        exec .restartEnd s = .next { s with
          turn := .forward, sweepWait := 0, lockState := .free
          last := { tag := c.tag, code := BitVec.ofNat 8 c.code.number, result := .ok, detail := 0 }, engine := .idle
          flags := s.flags ||| Flag.mask .commandDone, attn := attention (s.flags ||| Flag.mask .commandDone) s.enables
          mark := false, initialLead := true, rewriteCount := s.rewriteCount + 1, rewrite := some 0 })
      ∧ (s.inFlight ≠ [] → exec .restartEnd s = .next s))

/-- LOAD_PLAN begins (R5): with an exposure queued it ends IN_USE, detail 0; otherwise pass 1 begins with record 0. In
pass 1 (R6) the first line of a record is kept, and with its second gives the record as R176 lays it out; one that fails
R3 or R4 ends it with PLAN_INVALID and the record's index; one that passes is followed by the next, its window kept if it
is valid; after record 127 every segment and progress record is reset and pass 2 begins (R7); a FAULT ends it with
PLAN_READ_FAULT. The table is unchanged until then. -/
def Obligations.LoadPlanBeginsAndChecks : Prop :=
  (∀ (c : CurrentCommand) (first second : Line) (s : State), s.Running → s.Awaits c first → c.code = .loadPlan →
      (s.queue ≠ [] →
        ∃ u, exec (.parameterReadDone (.done second)) s = .next u ∧ EndedWith 1 c.tag .inUse 0 s.commandLanded u)
      ∧ (s.queue = [] →
        exec (.parameterReadDone (.done second)) s
          = .next { s.commandLanded with engine := .executing c (.planCheck 0 none []) }))
  ∧ (∀ (c : CurrentCommand) (i : SegIdx) (first : Option Line) (windows : List (Nat × Nat)) (s : State), s.Running →
      c.code = .loadPlan → s.engine = .executing c (.planCheck i first windows) → s.inFlightFor .command = true →
      let v := s.commandLanded
      (∀ line, first = none →
        exec (.planCheckReadDone (.done line)) s
          = .next { v with engine := .executing c (.planCheck i (some line) windows) })
      ∧ (∀ l0 line, first = some l0 →
        let r := segRecordOf (block l0 line)
        RecordLaidOut l0 line r
        ∧ (s.recordPasses r windows = false →
          ∃ u, exec (.planCheckReadDone (.done line)) s = .next u ∧ EndedWith 1 c.tag .planInvalid i.1 v u)
        ∧ (s.recordPasses r windows = true → i.1 < 127 →
          exec (.planCheckReadDone (.done line)) s
            = .next { v with
                engine := .executing c (.planCheck (Fin.ofNat 128 (i.1 + 1)) none
                  (if r.valid then windows ++ [(r.rawBase, r.windowSize)] else windows)) })
        ∧ (s.recordPasses r windows = true → i.1 = 127 →
          ∃ u, exec (.planCheckReadDone (.done line)) s = .next u
            ∧ u = { v with engine := .executing c (.planInstall 0 none), segs := u.segs, progress := u.progress }
            ∧ ∀ j : SegIdx, u.segs[j] = { s.segs[j] with valid := false }
              ∧ u.progress[j] = { state := .idle, count := 0, B := 0, acc := none }))
      ∧ ∃ u, exec (.planCheckReadDone .fault) s = .next u
        ∧ u = { v with
            last := { tag := c.tag, code := 1, result := .planReadFault, detail := i.1 }, engine := .idle
            flags := u.flags, attn := u.attn, counters := u.counters, rewrite := u.rewrite
            rewriteCount := u.rewriteCount, mark := u.mark }
        ∧ FlagsSet [.memoryFault, .commandDone] s u ∧ CountersRaised [.memoryFaults] s u ∧ RewriteAfter true s u)

/-- What a record must meet in pass 1 when its valid field is set (R1 to R4): every field in its range, the geometry within
the window, the window and the flat plane within the address space, and the window clear of the windows already passed, the
control area and the regions of stacks that are not EMPTY. -/
def Obligations.RecordPassesItsChecks : Prop :=
  ∀ (r : SegRecord) (windows : List (Nat × Nat)) (s : State),
    let meet (a la b lb : Nat) : Prop := ∃ x, a ≤ x ∧ x < a + la ∧ b ≤ x ∧ x < b + lb
    let rowlen := r.prescan + r.W + r.ov
    let size := if r.granularity = .byte then r.rawLimit + 1 else (r.rawLimit + 1) * 4096
    let fields :=
      r.rawBase < 2 ^ 40 ∧ r.rawBase % 4096 = 0 ∧ r.rawLimit ≤ 1048575 ∧ (∀ n, r.writer = .only n → n ≤ 7)
        ∧ r.prescan ≤ 255 ∧ 8 ≤ r.W ∧ r.W ≤ 8192 ∧ r.ov ≤ 64 ∧ 1 ≤ r.H ∧ r.H ≤ 8192
        ∧ (r.K = 1 ∨ r.K = 2 ∨ r.K = 4 ∨ r.K = 8) ∧ 1 ≤ r.S ∧ r.S ≤ 65535 ∧ 1 ≤ r.G ∧ r.G ≤ 65535
        ∧ r.biasSeed ≤ 1048560 ∧ r.k ≤ 7 ∧ (∀ a, r.flatBase = some a → a < 2 ^ 40 ∧ a % 32 = 0)
        ∧ r.X0 ≤ 16383 ∧ r.Y0 ≤ 16383 ∧ r.orientation ≤ 7
    let geometry :=
      (r.granularity = .byte → (r.rawLimit + 1) % 4 = 0) ∧ r.W % r.K = 0 ∧ 2 * (rowlen * r.H) ≤ size
        ∧ r.rawBase + size ≤ 2 ^ 40 ∧ (∀ a, r.flatBase = some a → a + 2 * r.W * r.H ≤ 2 ^ 40)
    let clear :=
      (∀ w ∈ windows, ¬ meet r.rawBase size w.1 w.2) ∧ ¬ meet r.rawBase size (s.base.toNat * 0x08000000) 65536
        ∧ ∀ k, (s.stack k).state ≠ .empty →
          ¬ meet r.rawBase size (s.stack k).cellBase ((s.stack k).width * (s.stack k).height * 8)
            ∧ ¬ meet r.rawBase size (s.stack k).outputBase ((s.stack k).width * (s.stack k).height * 4)
    s.recordPasses r windows = true ↔ (r.valid = true → fields ∧ geometry ∧ clear)

/-- Pass 2 of LOAD_PLAN (R7, R8): a record read, as R176 lays it out, is installed if its valid field is set, B at its
seed, and otherwise left; the next is read, and after record 127 the command ends OK with the number of valid records. A
FAULT ends it with PLAN_LOST: every record invalid, every progress record IDLE with B 0, and a memory fault counted. -/
def Obligations.PlanInstallReadTermination : Prop :=
  ∀ (c : CurrentCommand) (i : SegIdx) (first : Option Line) (s : State), s.Running → c.code = .loadPlan →
    s.engine = .executing c (.planInstall i first) → s.inFlightFor .command = true →
    let v := s.commandLanded
    (∀ line, first = none →
      exec (.planInstallReadDone (.done line)) s
        = .next { v with engine := .executing c (.planInstall i (some line)) })
    ∧ (∀ l0 line, first = some l0 →
      let r := segRecordOf (block l0 line)
      let installed : State := { v with
        segs := if r.valid then s.segs.set i.1 r i.2 else s.segs
        progress := if r.valid then s.progress.set i.1 { s.progress[i] with B := r.biasSeed } i.2 else s.progress }
      RecordLaidOut l0 line r
      ∧ (i.1 < 127 →
        exec (.planInstallReadDone (.done line)) s
          = .next { installed with engine := .executing c (.planInstall (Fin.ofNat 128 (i.1 + 1)) none) })
      ∧ (i.1 = 127 →
        ∃ u, exec (.planInstallReadDone (.done line)) s = .next u
          ∧ EndedWith 1 c.tag .ok ((List.finRange 128).filter fun j => installed.segs[j].valid).length installed u))
    ∧ ∃ u, exec (.planInstallReadDone .fault) s = .next u
      ∧ u = { v with
          last := { tag := c.tag, code := 1, result := .planLost, detail := i.1 }, engine := .idle
          segs := u.segs, progress := u.progress, flags := u.flags, attn := u.attn, counters := u.counters
          rewrite := u.rewrite, rewriteCount := u.rewriteCount, mark := u.mark }
      ∧ (∀ j : SegIdx, u.segs[j] = { s.segs[j] with valid := false }
        ∧ u.progress[j] = { state := .idle, count := 0, B := 0, acc := none })
      ∧ FlagsSet [.memoryFault, .commandDone] s u ∧ CountersRaised [.memoryFaults] s u ∧ RewriteAfter true s u

/-! ### Invariants of every step -/

/-- Every step leaves no request open and the attention line following the flags and the enables (R167, R172). -/
def Obligations.StepKeepsTheAttentionLine : Prop := ∀ s u : State, s.Settled → step s = .next u → u.Settled

/-- Every step keeps the arbiter's lock state at NONE without a lock record, and the port to the sequence alone while it is
HELD (R151, R152). A lock record may stand with the lock state NONE after a RESTART (R165, log entry 8). -/
def Obligations.StepKeepsTheLock : Prop := ∀ s u : State, s.LockAgrees → step s = .next u → u.LockAgrees

/-- Every step keeps every queue, buffer, list and count within its capacity (R22, R32, R60, R82, R147). -/
def Obligations.StepKeepsTheCapacities : Prop :=
  ∀ s u : State, s.WithinCapacity → step s = .next u → u.WithinCapacity

/-- Every step keeps the ledger of the exposures (R30, R31, R39). -/
def Obligations.StepKeepsTheLedger : Prop := ∀ s u : State, s.LedgerBalances → step s = .next u → u.LedgerBalances

/-- Every step keeps the reference counts (R100). -/
def Obligations.StepKeepsTheReferenceCounts : Prop :=
  ∀ s u : State, s.ReferencesAgree → step s = .next u → u.ReferencesAgree

/-- Every step keeps the placement queue in order (R84, R86). -/
def Obligations.StepKeepsThePlacementOrder : Prop :=
  ∀ s u : State, s.PlacementInOrder → step s = .next u → u.PlacementInOrder

/-- The reset state meets every invariant. -/
def Obligations.ResetMeetsEveryInvariant : Prop :=
  State.reset.Settled ∧ State.reset.LockAgrees ∧ State.reset.WithinCapacity ∧ State.reset.LedgerBalances
    ∧ State.reset.ReferencesAgree ∧ State.reset.PlacementInOrder
end

