-- ==== Sys2Proof/Laws/State.lean ====
section
/-! SUPPORT. One lemma a field for each named update of the state: the fields the update leaves as they are. A proof cites
these (they are simp lemmas) and unfolds no record update. -/

namespace Sys2Proof.Machine

/-! `State.request` -/

@[simp] theorem request_resetAsserted (s : State) : s.request.resetAsserted = s.resetAsserted := rfl
@[simp] theorem request_base (s : State) : s.request.base = s.base := rfl
@[simp] theorem request_level (s : State) : s.request.level = s.level := rfl
@[simp] theorem request_current (s : State) : s.request.current = s.current := rfl
@[simp] theorem request_lock (s : State) : s.request.lock = s.lock := rfl
@[simp] theorem request_segs (s : State) : s.request.segs = s.segs := rfl
@[simp] theorem request_progress (s : State) : s.request.progress = s.progress := rfl
@[simp] theorem request_queue (s : State) : s.request.queue = s.queue := rfl
@[simp] theorem request_retired (s : State) : s.request.retired = s.retired := rfl
@[simp] theorem request_intake (s : State) : s.request.intake = s.intake := rfl
@[simp] theorem request_entries (s : State) : s.request.entries = s.entries := rfl
@[simp] theorem request_placePresented (s : State) : s.request.placePresented = s.placePresented := rfl
@[simp] theorem request_stack0 (s : State) : s.request.stack0 = s.stack0 := rfl
@[simp] theorem request_stack1 (s : State) : s.request.stack1 = s.stack1 := rfl
@[simp] theorem request_sweep (s : State) : s.request.sweep = s.sweep := rfl
@[simp] theorem request_watch (s : State) : s.request.watch = s.watch := rfl
@[simp] theorem request_turn (s : State) : s.request.turn = s.turn := rfl
@[simp] theorem request_sweepWait (s : State) : s.request.sweepWait = s.sweepWait := rfl
@[simp] theorem request_lockState (s : State) : s.request.lockState = s.lockState := rfl
@[simp] theorem request_inFlight (s : State) : s.request.inFlight = s.inFlight := rfl
@[simp] theorem request_initialLead (s : State) : s.request.initialLead = s.initialLead := rfl
@[simp] theorem request_engine (s : State) : s.request.engine = s.engine := rfl
@[simp] theorem request_last (s : State) : s.request.last = s.last := rfl
@[simp] theorem request_flags (s : State) : s.request.flags = s.flags := rfl
@[simp] theorem request_enables (s : State) : s.request.enables = s.enables := rfl
@[simp] theorem request_attn (s : State) : s.request.attn = s.attn := rfl
@[simp] theorem request_counters (s : State) : s.request.counters = s.counters := rfl
@[simp] theorem request_rewriteCount (s : State) : s.request.rewriteCount = s.rewriteCount := rfl
@[simp] theorem request_rewrite (s : State) : s.request.rewrite = s.rewrite := rfl
@[simp] theorem request_mark (s : State) : s.request.mark = s.mark := rfl
@[simp] theorem request_retirements (s : State) : s.request.retirements = s.retirements := rfl
@[simp] theorem request_answers (s : State) : s.request.answers = s.answers := rfl
@[simp] theorem request_nextSlot (s : State) : s.request.nextSlot = s.nextSlot := rfl
@[simp] theorem request_nextEntry (s : State) : s.request.nextEntry = s.nextEntry := rfl
@[simp] theorem request_pending (s : State) : s.request.pending = s.pending := rfl

/-! `State.replaceEnables` -/

@[simp] theorem replaceEnables_resetAsserted (s : State) (m : BitVec 15) : (s.replaceEnables m).resetAsserted = s.resetAsserted := rfl
@[simp] theorem replaceEnables_base (s : State) (m : BitVec 15) : (s.replaceEnables m).base = s.base := rfl
@[simp] theorem replaceEnables_level (s : State) (m : BitVec 15) : (s.replaceEnables m).level = s.level := rfl
@[simp] theorem replaceEnables_current (s : State) (m : BitVec 15) : (s.replaceEnables m).current = s.current := rfl
@[simp] theorem replaceEnables_lock (s : State) (m : BitVec 15) : (s.replaceEnables m).lock = s.lock := rfl
@[simp] theorem replaceEnables_segs (s : State) (m : BitVec 15) : (s.replaceEnables m).segs = s.segs := rfl
@[simp] theorem replaceEnables_progress (s : State) (m : BitVec 15) : (s.replaceEnables m).progress = s.progress := rfl
@[simp] theorem replaceEnables_queue (s : State) (m : BitVec 15) : (s.replaceEnables m).queue = s.queue := rfl
@[simp] theorem replaceEnables_retired (s : State) (m : BitVec 15) : (s.replaceEnables m).retired = s.retired := rfl
@[simp] theorem replaceEnables_intake (s : State) (m : BitVec 15) : (s.replaceEnables m).intake = s.intake := rfl
@[simp] theorem replaceEnables_entries (s : State) (m : BitVec 15) : (s.replaceEnables m).entries = s.entries := rfl
@[simp] theorem replaceEnables_placePresented (s : State) (m : BitVec 15) : (s.replaceEnables m).placePresented = s.placePresented := rfl
@[simp] theorem replaceEnables_stack0 (s : State) (m : BitVec 15) : (s.replaceEnables m).stack0 = s.stack0 := rfl
@[simp] theorem replaceEnables_stack1 (s : State) (m : BitVec 15) : (s.replaceEnables m).stack1 = s.stack1 := rfl
@[simp] theorem replaceEnables_sweep (s : State) (m : BitVec 15) : (s.replaceEnables m).sweep = s.sweep := rfl
@[simp] theorem replaceEnables_watch (s : State) (m : BitVec 15) : (s.replaceEnables m).watch = s.watch := rfl
@[simp] theorem replaceEnables_turn (s : State) (m : BitVec 15) : (s.replaceEnables m).turn = s.turn := rfl
@[simp] theorem replaceEnables_sweepWait (s : State) (m : BitVec 15) : (s.replaceEnables m).sweepWait = s.sweepWait := rfl
@[simp] theorem replaceEnables_lockState (s : State) (m : BitVec 15) : (s.replaceEnables m).lockState = s.lockState := rfl
@[simp] theorem replaceEnables_inFlight (s : State) (m : BitVec 15) : (s.replaceEnables m).inFlight = s.inFlight := rfl
@[simp] theorem replaceEnables_initialLead (s : State) (m : BitVec 15) : (s.replaceEnables m).initialLead = s.initialLead := rfl
@[simp] theorem replaceEnables_engine (s : State) (m : BitVec 15) : (s.replaceEnables m).engine = s.engine := rfl
@[simp] theorem replaceEnables_last (s : State) (m : BitVec 15) : (s.replaceEnables m).last = s.last := rfl
@[simp] theorem replaceEnables_flags (s : State) (m : BitVec 15) : (s.replaceEnables m).flags = s.flags := rfl
@[simp] theorem replaceEnables_counters (s : State) (m : BitVec 15) : (s.replaceEnables m).counters = s.counters := rfl
@[simp] theorem replaceEnables_rewriteCount (s : State) (m : BitVec 15) : (s.replaceEnables m).rewriteCount = s.rewriteCount := rfl
@[simp] theorem replaceEnables_rewrite (s : State) (m : BitVec 15) : (s.replaceEnables m).rewrite = s.rewrite := rfl
@[simp] theorem replaceEnables_mark (s : State) (m : BitVec 15) : (s.replaceEnables m).mark = s.mark := rfl
@[simp] theorem replaceEnables_requested (s : State) (m : BitVec 15) : (s.replaceEnables m).requested = s.requested := rfl
@[simp] theorem replaceEnables_retirements (s : State) (m : BitVec 15) : (s.replaceEnables m).retirements = s.retirements := rfl
@[simp] theorem replaceEnables_answers (s : State) (m : BitVec 15) : (s.replaceEnables m).answers = s.answers := rfl
@[simp] theorem replaceEnables_nextSlot (s : State) (m : BitVec 15) : (s.replaceEnables m).nextSlot = s.nextSlot := rfl
@[simp] theorem replaceEnables_nextEntry (s : State) (m : BitVec 15) : (s.replaceEnables m).nextEntry = s.nextEntry := rfl
@[simp] theorem replaceEnables_pending (s : State) (m : BitVec 15) : (s.replaceEnables m).pending = s.pending := rfl

/-! `State.bump` -/

@[simp] theorem bump_resetAsserted (s : State) (c : Counter) : (s.bump c).resetAsserted = s.resetAsserted := rfl
@[simp] theorem bump_base (s : State) (c : Counter) : (s.bump c).base = s.base := rfl
@[simp] theorem bump_level (s : State) (c : Counter) : (s.bump c).level = s.level := rfl
@[simp] theorem bump_current (s : State) (c : Counter) : (s.bump c).current = s.current := rfl
@[simp] theorem bump_lock (s : State) (c : Counter) : (s.bump c).lock = s.lock := rfl
@[simp] theorem bump_segs (s : State) (c : Counter) : (s.bump c).segs = s.segs := rfl
@[simp] theorem bump_progress (s : State) (c : Counter) : (s.bump c).progress = s.progress := rfl
@[simp] theorem bump_queue (s : State) (c : Counter) : (s.bump c).queue = s.queue := rfl
@[simp] theorem bump_retired (s : State) (c : Counter) : (s.bump c).retired = s.retired := rfl
@[simp] theorem bump_intake (s : State) (c : Counter) : (s.bump c).intake = s.intake := rfl
@[simp] theorem bump_entries (s : State) (c : Counter) : (s.bump c).entries = s.entries := rfl
@[simp] theorem bump_placePresented (s : State) (c : Counter) : (s.bump c).placePresented = s.placePresented := rfl
@[simp] theorem bump_stack0 (s : State) (c : Counter) : (s.bump c).stack0 = s.stack0 := rfl
@[simp] theorem bump_stack1 (s : State) (c : Counter) : (s.bump c).stack1 = s.stack1 := rfl
@[simp] theorem bump_sweep (s : State) (c : Counter) : (s.bump c).sweep = s.sweep := rfl
@[simp] theorem bump_watch (s : State) (c : Counter) : (s.bump c).watch = s.watch := rfl
@[simp] theorem bump_turn (s : State) (c : Counter) : (s.bump c).turn = s.turn := rfl
@[simp] theorem bump_sweepWait (s : State) (c : Counter) : (s.bump c).sweepWait = s.sweepWait := rfl
@[simp] theorem bump_lockState (s : State) (c : Counter) : (s.bump c).lockState = s.lockState := rfl
@[simp] theorem bump_inFlight (s : State) (c : Counter) : (s.bump c).inFlight = s.inFlight := rfl
@[simp] theorem bump_initialLead (s : State) (c : Counter) : (s.bump c).initialLead = s.initialLead := rfl
@[simp] theorem bump_engine (s : State) (c : Counter) : (s.bump c).engine = s.engine := rfl
@[simp] theorem bump_last (s : State) (c : Counter) : (s.bump c).last = s.last := rfl
@[simp] theorem bump_flags (s : State) (c : Counter) : (s.bump c).flags = s.flags := rfl
@[simp] theorem bump_enables (s : State) (c : Counter) : (s.bump c).enables = s.enables := rfl
@[simp] theorem bump_attn (s : State) (c : Counter) : (s.bump c).attn = s.attn := rfl
@[simp] theorem bump_rewriteCount (s : State) (c : Counter) : (s.bump c).rewriteCount = s.rewriteCount := rfl
@[simp] theorem bump_rewrite (s : State) (c : Counter) : (s.bump c).rewrite = s.rewrite := rfl
@[simp] theorem bump_mark (s : State) (c : Counter) : (s.bump c).mark = s.mark := rfl
@[simp] theorem bump_requested (s : State) (c : Counter) : (s.bump c).requested = s.requested := rfl
@[simp] theorem bump_retirements (s : State) (c : Counter) : (s.bump c).retirements = s.retirements := rfl
@[simp] theorem bump_answers (s : State) (c : Counter) : (s.bump c).answers = s.answers := rfl
@[simp] theorem bump_nextSlot (s : State) (c : Counter) : (s.bump c).nextSlot = s.nextSlot := rfl
@[simp] theorem bump_nextEntry (s : State) (c : Counter) : (s.bump c).nextEntry = s.nextEntry := rfl
@[simp] theorem bump_pending (s : State) (c : Counter) : (s.bump c).pending = s.pending := rfl

/-! `State.clearCounters` -/

@[simp] theorem clearCounters_resetAsserted (s : State) : s.clearCounters.resetAsserted = s.resetAsserted := rfl
@[simp] theorem clearCounters_base (s : State) : s.clearCounters.base = s.base := rfl
@[simp] theorem clearCounters_level (s : State) : s.clearCounters.level = s.level := rfl
@[simp] theorem clearCounters_current (s : State) : s.clearCounters.current = s.current := rfl
@[simp] theorem clearCounters_lock (s : State) : s.clearCounters.lock = s.lock := rfl
@[simp] theorem clearCounters_segs (s : State) : s.clearCounters.segs = s.segs := rfl
@[simp] theorem clearCounters_progress (s : State) : s.clearCounters.progress = s.progress := rfl
@[simp] theorem clearCounters_queue (s : State) : s.clearCounters.queue = s.queue := rfl
@[simp] theorem clearCounters_retired (s : State) : s.clearCounters.retired = s.retired := rfl
@[simp] theorem clearCounters_intake (s : State) : s.clearCounters.intake = s.intake := rfl
@[simp] theorem clearCounters_entries (s : State) : s.clearCounters.entries = s.entries := rfl
@[simp] theorem clearCounters_placePresented (s : State) : s.clearCounters.placePresented = s.placePresented := rfl
@[simp] theorem clearCounters_stack0 (s : State) : s.clearCounters.stack0 = s.stack0 := rfl
@[simp] theorem clearCounters_stack1 (s : State) : s.clearCounters.stack1 = s.stack1 := rfl
@[simp] theorem clearCounters_sweep (s : State) : s.clearCounters.sweep = s.sweep := rfl
@[simp] theorem clearCounters_watch (s : State) : s.clearCounters.watch = s.watch := rfl
@[simp] theorem clearCounters_turn (s : State) : s.clearCounters.turn = s.turn := rfl
@[simp] theorem clearCounters_sweepWait (s : State) : s.clearCounters.sweepWait = s.sweepWait := rfl
@[simp] theorem clearCounters_lockState (s : State) : s.clearCounters.lockState = s.lockState := rfl
@[simp] theorem clearCounters_inFlight (s : State) : s.clearCounters.inFlight = s.inFlight := rfl
@[simp] theorem clearCounters_initialLead (s : State) : s.clearCounters.initialLead = s.initialLead := rfl
@[simp] theorem clearCounters_engine (s : State) : s.clearCounters.engine = s.engine := rfl
@[simp] theorem clearCounters_last (s : State) : s.clearCounters.last = s.last := rfl
@[simp] theorem clearCounters_flags (s : State) : s.clearCounters.flags = s.flags := rfl
@[simp] theorem clearCounters_enables (s : State) : s.clearCounters.enables = s.enables := rfl
@[simp] theorem clearCounters_attn (s : State) : s.clearCounters.attn = s.attn := rfl
@[simp] theorem clearCounters_rewriteCount (s : State) : s.clearCounters.rewriteCount = s.rewriteCount := rfl
@[simp] theorem clearCounters_rewrite (s : State) : s.clearCounters.rewrite = s.rewrite := rfl
@[simp] theorem clearCounters_mark (s : State) : s.clearCounters.mark = s.mark := rfl
@[simp] theorem clearCounters_retirements (s : State) : s.clearCounters.retirements = s.retirements := rfl
@[simp] theorem clearCounters_answers (s : State) : s.clearCounters.answers = s.answers := rfl
@[simp] theorem clearCounters_nextSlot (s : State) : s.clearCounters.nextSlot = s.nextSlot := rfl
@[simp] theorem clearCounters_nextEntry (s : State) : s.clearCounters.nextEntry = s.nextEntry := rfl
@[simp] theorem clearCounters_pending (s : State) : s.clearCounters.pending = s.pending := rfl

/-! `State.startRewrite` -/

@[simp] theorem startRewrite_resetAsserted (s : State) : s.startRewrite.resetAsserted = s.resetAsserted := rfl
@[simp] theorem startRewrite_base (s : State) : s.startRewrite.base = s.base := rfl
@[simp] theorem startRewrite_level (s : State) : s.startRewrite.level = s.level := rfl
@[simp] theorem startRewrite_current (s : State) : s.startRewrite.current = s.current := rfl
@[simp] theorem startRewrite_lock (s : State) : s.startRewrite.lock = s.lock := rfl
@[simp] theorem startRewrite_segs (s : State) : s.startRewrite.segs = s.segs := rfl
@[simp] theorem startRewrite_progress (s : State) : s.startRewrite.progress = s.progress := rfl
@[simp] theorem startRewrite_queue (s : State) : s.startRewrite.queue = s.queue := rfl
@[simp] theorem startRewrite_retired (s : State) : s.startRewrite.retired = s.retired := rfl
@[simp] theorem startRewrite_intake (s : State) : s.startRewrite.intake = s.intake := rfl
@[simp] theorem startRewrite_entries (s : State) : s.startRewrite.entries = s.entries := rfl
@[simp] theorem startRewrite_placePresented (s : State) : s.startRewrite.placePresented = s.placePresented := rfl
@[simp] theorem startRewrite_stack0 (s : State) : s.startRewrite.stack0 = s.stack0 := rfl
@[simp] theorem startRewrite_stack1 (s : State) : s.startRewrite.stack1 = s.stack1 := rfl
@[simp] theorem startRewrite_sweep (s : State) : s.startRewrite.sweep = s.sweep := rfl
@[simp] theorem startRewrite_watch (s : State) : s.startRewrite.watch = s.watch := rfl
@[simp] theorem startRewrite_turn (s : State) : s.startRewrite.turn = s.turn := rfl
@[simp] theorem startRewrite_sweepWait (s : State) : s.startRewrite.sweepWait = s.sweepWait := rfl
@[simp] theorem startRewrite_lockState (s : State) : s.startRewrite.lockState = s.lockState := rfl
@[simp] theorem startRewrite_inFlight (s : State) : s.startRewrite.inFlight = s.inFlight := rfl
@[simp] theorem startRewrite_initialLead (s : State) : s.startRewrite.initialLead = s.initialLead := rfl
@[simp] theorem startRewrite_engine (s : State) : s.startRewrite.engine = s.engine := rfl
@[simp] theorem startRewrite_last (s : State) : s.startRewrite.last = s.last := rfl
@[simp] theorem startRewrite_flags (s : State) : s.startRewrite.flags = s.flags := rfl
@[simp] theorem startRewrite_enables (s : State) : s.startRewrite.enables = s.enables := rfl
@[simp] theorem startRewrite_attn (s : State) : s.startRewrite.attn = s.attn := rfl
@[simp] theorem startRewrite_counters (s : State) : s.startRewrite.counters = s.counters := rfl
@[simp] theorem startRewrite_mark (s : State) : s.startRewrite.mark = s.mark := rfl
@[simp] theorem startRewrite_requested (s : State) : s.startRewrite.requested = s.requested := rfl
@[simp] theorem startRewrite_retirements (s : State) : s.startRewrite.retirements = s.retirements := rfl
@[simp] theorem startRewrite_answers (s : State) : s.startRewrite.answers = s.answers := rfl
@[simp] theorem startRewrite_nextSlot (s : State) : s.startRewrite.nextSlot = s.nextSlot := rfl
@[simp] theorem startRewrite_nextEntry (s : State) : s.startRewrite.nextEntry = s.nextEntry := rfl
@[simp] theorem startRewrite_pending (s : State) : s.startRewrite.pending = s.pending := rfl

/-! `State.setProgress` -/

@[simp] theorem setProgress_resetAsserted (s : State) (i : SegIdx) (p : Progress) : (s.setProgress i p).resetAsserted = s.resetAsserted := rfl
@[simp] theorem setProgress_base (s : State) (i : SegIdx) (p : Progress) : (s.setProgress i p).base = s.base := rfl
@[simp] theorem setProgress_level (s : State) (i : SegIdx) (p : Progress) : (s.setProgress i p).level = s.level := rfl
@[simp] theorem setProgress_current (s : State) (i : SegIdx) (p : Progress) : (s.setProgress i p).current = s.current := rfl
@[simp] theorem setProgress_lock (s : State) (i : SegIdx) (p : Progress) : (s.setProgress i p).lock = s.lock := rfl
@[simp] theorem setProgress_segs (s : State) (i : SegIdx) (p : Progress) : (s.setProgress i p).segs = s.segs := rfl
@[simp] theorem setProgress_queue (s : State) (i : SegIdx) (p : Progress) : (s.setProgress i p).queue = s.queue := rfl
@[simp] theorem setProgress_retired (s : State) (i : SegIdx) (p : Progress) : (s.setProgress i p).retired = s.retired := rfl
@[simp] theorem setProgress_intake (s : State) (i : SegIdx) (p : Progress) : (s.setProgress i p).intake = s.intake := rfl
@[simp] theorem setProgress_entries (s : State) (i : SegIdx) (p : Progress) : (s.setProgress i p).entries = s.entries := rfl
@[simp] theorem setProgress_placePresented (s : State) (i : SegIdx) (p : Progress) : (s.setProgress i p).placePresented = s.placePresented := rfl
@[simp] theorem setProgress_stack0 (s : State) (i : SegIdx) (p : Progress) : (s.setProgress i p).stack0 = s.stack0 := rfl
@[simp] theorem setProgress_stack1 (s : State) (i : SegIdx) (p : Progress) : (s.setProgress i p).stack1 = s.stack1 := rfl
@[simp] theorem setProgress_sweep (s : State) (i : SegIdx) (p : Progress) : (s.setProgress i p).sweep = s.sweep := rfl
@[simp] theorem setProgress_watch (s : State) (i : SegIdx) (p : Progress) : (s.setProgress i p).watch = s.watch := rfl
@[simp] theorem setProgress_turn (s : State) (i : SegIdx) (p : Progress) : (s.setProgress i p).turn = s.turn := rfl
@[simp] theorem setProgress_sweepWait (s : State) (i : SegIdx) (p : Progress) : (s.setProgress i p).sweepWait = s.sweepWait := rfl
@[simp] theorem setProgress_lockState (s : State) (i : SegIdx) (p : Progress) : (s.setProgress i p).lockState = s.lockState := rfl
@[simp] theorem setProgress_inFlight (s : State) (i : SegIdx) (p : Progress) : (s.setProgress i p).inFlight = s.inFlight := rfl
@[simp] theorem setProgress_initialLead (s : State) (i : SegIdx) (p : Progress) : (s.setProgress i p).initialLead = s.initialLead := rfl
@[simp] theorem setProgress_engine (s : State) (i : SegIdx) (p : Progress) : (s.setProgress i p).engine = s.engine := rfl
@[simp] theorem setProgress_last (s : State) (i : SegIdx) (p : Progress) : (s.setProgress i p).last = s.last := rfl
@[simp] theorem setProgress_flags (s : State) (i : SegIdx) (p : Progress) : (s.setProgress i p).flags = s.flags := rfl
@[simp] theorem setProgress_enables (s : State) (i : SegIdx) (p : Progress) : (s.setProgress i p).enables = s.enables := rfl
@[simp] theorem setProgress_attn (s : State) (i : SegIdx) (p : Progress) : (s.setProgress i p).attn = s.attn := rfl
@[simp] theorem setProgress_counters (s : State) (i : SegIdx) (p : Progress) : (s.setProgress i p).counters = s.counters := rfl
@[simp] theorem setProgress_rewriteCount (s : State) (i : SegIdx) (p : Progress) : (s.setProgress i p).rewriteCount = s.rewriteCount := rfl
@[simp] theorem setProgress_rewrite (s : State) (i : SegIdx) (p : Progress) : (s.setProgress i p).rewrite = s.rewrite := rfl
@[simp] theorem setProgress_mark (s : State) (i : SegIdx) (p : Progress) : (s.setProgress i p).mark = s.mark := rfl
@[simp] theorem setProgress_requested (s : State) (i : SegIdx) (p : Progress) : (s.setProgress i p).requested = s.requested := rfl
@[simp] theorem setProgress_retirements (s : State) (i : SegIdx) (p : Progress) : (s.setProgress i p).retirements = s.retirements := rfl
@[simp] theorem setProgress_answers (s : State) (i : SegIdx) (p : Progress) : (s.setProgress i p).answers = s.answers := rfl
@[simp] theorem setProgress_nextSlot (s : State) (i : SegIdx) (p : Progress) : (s.setProgress i p).nextSlot = s.nextSlot := rfl
@[simp] theorem setProgress_nextEntry (s : State) (i : SegIdx) (p : Progress) : (s.setProgress i p).nextEntry = s.nextEntry := rfl
@[simp] theorem setProgress_pending (s : State) (i : SegIdx) (p : Progress) : (s.setProgress i p).pending = s.pending := rfl

/-! `State.answer` -/

@[simp] theorem answer_resetAsserted (s : State) (t : Transfer) (a : Answer) : (s.answer t a).resetAsserted = s.resetAsserted := rfl
@[simp] theorem answer_base (s : State) (t : Transfer) (a : Answer) : (s.answer t a).base = s.base := rfl
@[simp] theorem answer_level (s : State) (t : Transfer) (a : Answer) : (s.answer t a).level = s.level := rfl
@[simp] theorem answer_lock (s : State) (t : Transfer) (a : Answer) : (s.answer t a).lock = s.lock := rfl
@[simp] theorem answer_segs (s : State) (t : Transfer) (a : Answer) : (s.answer t a).segs = s.segs := rfl
@[simp] theorem answer_progress (s : State) (t : Transfer) (a : Answer) : (s.answer t a).progress = s.progress := rfl
@[simp] theorem answer_queue (s : State) (t : Transfer) (a : Answer) : (s.answer t a).queue = s.queue := rfl
@[simp] theorem answer_retired (s : State) (t : Transfer) (a : Answer) : (s.answer t a).retired = s.retired := rfl
@[simp] theorem answer_intake (s : State) (t : Transfer) (a : Answer) : (s.answer t a).intake = s.intake := rfl
@[simp] theorem answer_entries (s : State) (t : Transfer) (a : Answer) : (s.answer t a).entries = s.entries := rfl
@[simp] theorem answer_placePresented (s : State) (t : Transfer) (a : Answer) : (s.answer t a).placePresented = s.placePresented := rfl
@[simp] theorem answer_stack0 (s : State) (t : Transfer) (a : Answer) : (s.answer t a).stack0 = s.stack0 := rfl
@[simp] theorem answer_stack1 (s : State) (t : Transfer) (a : Answer) : (s.answer t a).stack1 = s.stack1 := rfl
@[simp] theorem answer_sweep (s : State) (t : Transfer) (a : Answer) : (s.answer t a).sweep = s.sweep := rfl
@[simp] theorem answer_watch (s : State) (t : Transfer) (a : Answer) : (s.answer t a).watch = s.watch := rfl
@[simp] theorem answer_turn (s : State) (t : Transfer) (a : Answer) : (s.answer t a).turn = s.turn := rfl
@[simp] theorem answer_sweepWait (s : State) (t : Transfer) (a : Answer) : (s.answer t a).sweepWait = s.sweepWait := rfl
@[simp] theorem answer_lockState (s : State) (t : Transfer) (a : Answer) : (s.answer t a).lockState = s.lockState := rfl
@[simp] theorem answer_inFlight (s : State) (t : Transfer) (a : Answer) : (s.answer t a).inFlight = s.inFlight := rfl
@[simp] theorem answer_initialLead (s : State) (t : Transfer) (a : Answer) : (s.answer t a).initialLead = s.initialLead := rfl
@[simp] theorem answer_engine (s : State) (t : Transfer) (a : Answer) : (s.answer t a).engine = s.engine := rfl
@[simp] theorem answer_last (s : State) (t : Transfer) (a : Answer) : (s.answer t a).last = s.last := rfl
@[simp] theorem answer_flags (s : State) (t : Transfer) (a : Answer) : (s.answer t a).flags = s.flags := rfl
@[simp] theorem answer_enables (s : State) (t : Transfer) (a : Answer) : (s.answer t a).enables = s.enables := rfl
@[simp] theorem answer_attn (s : State) (t : Transfer) (a : Answer) : (s.answer t a).attn = s.attn := rfl
@[simp] theorem answer_counters (s : State) (t : Transfer) (a : Answer) : (s.answer t a).counters = s.counters := rfl
@[simp] theorem answer_rewriteCount (s : State) (t : Transfer) (a : Answer) : (s.answer t a).rewriteCount = s.rewriteCount := rfl
@[simp] theorem answer_rewrite (s : State) (t : Transfer) (a : Answer) : (s.answer t a).rewrite = s.rewrite := rfl
@[simp] theorem answer_mark (s : State) (t : Transfer) (a : Answer) : (s.answer t a).mark = s.mark := rfl
@[simp] theorem answer_requested (s : State) (t : Transfer) (a : Answer) : (s.answer t a).requested = s.requested := rfl
@[simp] theorem answer_retirements (s : State) (t : Transfer) (a : Answer) : (s.answer t a).retirements = s.retirements := rfl
@[simp] theorem answer_nextSlot (s : State) (t : Transfer) (a : Answer) : (s.answer t a).nextSlot = s.nextSlot := rfl
@[simp] theorem answer_nextEntry (s : State) (t : Transfer) (a : Answer) : (s.answer t a).nextEntry = s.nextEntry := rfl
@[simp] theorem answer_pending (s : State) (t : Transfer) (a : Answer) : (s.answer t a).pending = s.pending := rfl

/-! `State.hold` -/

@[simp] theorem hold_resetAsserted (s : State) (t : Transfer) (h : HoldReason) : (s.hold t h).resetAsserted = s.resetAsserted := rfl
@[simp] theorem hold_base (s : State) (t : Transfer) (h : HoldReason) : (s.hold t h).base = s.base := rfl
@[simp] theorem hold_level (s : State) (t : Transfer) (h : HoldReason) : (s.hold t h).level = s.level := rfl
@[simp] theorem hold_lock (s : State) (t : Transfer) (h : HoldReason) : (s.hold t h).lock = s.lock := rfl
@[simp] theorem hold_segs (s : State) (t : Transfer) (h : HoldReason) : (s.hold t h).segs = s.segs := rfl
@[simp] theorem hold_progress (s : State) (t : Transfer) (h : HoldReason) : (s.hold t h).progress = s.progress := rfl
@[simp] theorem hold_queue (s : State) (t : Transfer) (h : HoldReason) : (s.hold t h).queue = s.queue := rfl
@[simp] theorem hold_retired (s : State) (t : Transfer) (h : HoldReason) : (s.hold t h).retired = s.retired := rfl
@[simp] theorem hold_intake (s : State) (t : Transfer) (h : HoldReason) : (s.hold t h).intake = s.intake := rfl
@[simp] theorem hold_entries (s : State) (t : Transfer) (h : HoldReason) : (s.hold t h).entries = s.entries := rfl
@[simp] theorem hold_placePresented (s : State) (t : Transfer) (h : HoldReason) : (s.hold t h).placePresented = s.placePresented := rfl
@[simp] theorem hold_stack0 (s : State) (t : Transfer) (h : HoldReason) : (s.hold t h).stack0 = s.stack0 := rfl
@[simp] theorem hold_stack1 (s : State) (t : Transfer) (h : HoldReason) : (s.hold t h).stack1 = s.stack1 := rfl
@[simp] theorem hold_sweep (s : State) (t : Transfer) (h : HoldReason) : (s.hold t h).sweep = s.sweep := rfl
@[simp] theorem hold_watch (s : State) (t : Transfer) (h : HoldReason) : (s.hold t h).watch = s.watch := rfl
@[simp] theorem hold_turn (s : State) (t : Transfer) (h : HoldReason) : (s.hold t h).turn = s.turn := rfl
@[simp] theorem hold_sweepWait (s : State) (t : Transfer) (h : HoldReason) : (s.hold t h).sweepWait = s.sweepWait := rfl
@[simp] theorem hold_lockState (s : State) (t : Transfer) (h : HoldReason) : (s.hold t h).lockState = s.lockState := rfl
@[simp] theorem hold_inFlight (s : State) (t : Transfer) (h : HoldReason) : (s.hold t h).inFlight = s.inFlight := rfl
@[simp] theorem hold_initialLead (s : State) (t : Transfer) (h : HoldReason) : (s.hold t h).initialLead = s.initialLead := rfl
@[simp] theorem hold_engine (s : State) (t : Transfer) (h : HoldReason) : (s.hold t h).engine = s.engine := rfl
@[simp] theorem hold_last (s : State) (t : Transfer) (h : HoldReason) : (s.hold t h).last = s.last := rfl
@[simp] theorem hold_flags (s : State) (t : Transfer) (h : HoldReason) : (s.hold t h).flags = s.flags := rfl
@[simp] theorem hold_enables (s : State) (t : Transfer) (h : HoldReason) : (s.hold t h).enables = s.enables := rfl
@[simp] theorem hold_attn (s : State) (t : Transfer) (h : HoldReason) : (s.hold t h).attn = s.attn := rfl
@[simp] theorem hold_counters (s : State) (t : Transfer) (h : HoldReason) : (s.hold t h).counters = s.counters := rfl
@[simp] theorem hold_rewriteCount (s : State) (t : Transfer) (h : HoldReason) : (s.hold t h).rewriteCount = s.rewriteCount := rfl
@[simp] theorem hold_rewrite (s : State) (t : Transfer) (h : HoldReason) : (s.hold t h).rewrite = s.rewrite := rfl
@[simp] theorem hold_mark (s : State) (t : Transfer) (h : HoldReason) : (s.hold t h).mark = s.mark := rfl
@[simp] theorem hold_requested (s : State) (t : Transfer) (h : HoldReason) : (s.hold t h).requested = s.requested := rfl
@[simp] theorem hold_retirements (s : State) (t : Transfer) (h : HoldReason) : (s.hold t h).retirements = s.retirements := rfl
@[simp] theorem hold_answers (s : State) (t : Transfer) (h : HoldReason) : (s.hold t h).answers = s.answers := rfl
@[simp] theorem hold_nextSlot (s : State) (t : Transfer) (h : HoldReason) : (s.hold t h).nextSlot = s.nextSlot := rfl
@[simp] theorem hold_nextEntry (s : State) (t : Transfer) (h : HoldReason) : (s.hold t h).nextEntry = s.nextEntry := rfl
@[simp] theorem hold_pending (s : State) (t : Transfer) (h : HoldReason) : (s.hold t h).pending = s.pending := rfl

/-! `State.endLock` -/

@[simp] theorem endLock_resetAsserted (s : State) : s.endLock.resetAsserted = s.resetAsserted := rfl
@[simp] theorem endLock_base (s : State) : s.endLock.base = s.base := rfl
@[simp] theorem endLock_level (s : State) : s.endLock.level = s.level := rfl
@[simp] theorem endLock_current (s : State) : s.endLock.current = s.current := rfl
@[simp] theorem endLock_segs (s : State) : s.endLock.segs = s.segs := rfl
@[simp] theorem endLock_progress (s : State) : s.endLock.progress = s.progress := rfl
@[simp] theorem endLock_queue (s : State) : s.endLock.queue = s.queue := rfl
@[simp] theorem endLock_retired (s : State) : s.endLock.retired = s.retired := rfl
@[simp] theorem endLock_intake (s : State) : s.endLock.intake = s.intake := rfl
@[simp] theorem endLock_entries (s : State) : s.endLock.entries = s.entries := rfl
@[simp] theorem endLock_placePresented (s : State) : s.endLock.placePresented = s.placePresented := rfl
@[simp] theorem endLock_stack0 (s : State) : s.endLock.stack0 = s.stack0 := rfl
@[simp] theorem endLock_stack1 (s : State) : s.endLock.stack1 = s.stack1 := rfl
@[simp] theorem endLock_sweep (s : State) : s.endLock.sweep = s.sweep := rfl
@[simp] theorem endLock_watch (s : State) : s.endLock.watch = s.watch := rfl
@[simp] theorem endLock_turn (s : State) : s.endLock.turn = s.turn := rfl
@[simp] theorem endLock_sweepWait (s : State) : s.endLock.sweepWait = s.sweepWait := rfl
@[simp] theorem endLock_inFlight (s : State) : s.endLock.inFlight = s.inFlight := rfl
@[simp] theorem endLock_initialLead (s : State) : s.endLock.initialLead = s.initialLead := rfl
@[simp] theorem endLock_engine (s : State) : s.endLock.engine = s.engine := rfl
@[simp] theorem endLock_last (s : State) : s.endLock.last = s.last := rfl
@[simp] theorem endLock_flags (s : State) : s.endLock.flags = s.flags := rfl
@[simp] theorem endLock_enables (s : State) : s.endLock.enables = s.enables := rfl
@[simp] theorem endLock_attn (s : State) : s.endLock.attn = s.attn := rfl
@[simp] theorem endLock_counters (s : State) : s.endLock.counters = s.counters := rfl
@[simp] theorem endLock_rewriteCount (s : State) : s.endLock.rewriteCount = s.rewriteCount := rfl
@[simp] theorem endLock_rewrite (s : State) : s.endLock.rewrite = s.rewrite := rfl
@[simp] theorem endLock_mark (s : State) : s.endLock.mark = s.mark := rfl
@[simp] theorem endLock_requested (s : State) : s.endLock.requested = s.requested := rfl
@[simp] theorem endLock_retirements (s : State) : s.endLock.retirements = s.retirements := rfl
@[simp] theorem endLock_answers (s : State) : s.endLock.answers = s.answers := rfl
@[simp] theorem endLock_nextSlot (s : State) : s.endLock.nextSlot = s.nextSlot := rfl
@[simp] theorem endLock_nextEntry (s : State) : s.endLock.nextEntry = s.nextEntry := rfl
@[simp] theorem endLock_pending (s : State) : s.endLock.pending = s.pending := rfl

/-! `State.issue` -/

@[simp] theorem issue_resetAsserted (s : State) (o : Owner) (x : MemTransfer) : (s.issue o x).resetAsserted = s.resetAsserted := rfl
@[simp] theorem issue_base (s : State) (o : Owner) (x : MemTransfer) : (s.issue o x).base = s.base := rfl
@[simp] theorem issue_level (s : State) (o : Owner) (x : MemTransfer) : (s.issue o x).level = s.level := rfl
@[simp] theorem issue_current (s : State) (o : Owner) (x : MemTransfer) : (s.issue o x).current = s.current := rfl
@[simp] theorem issue_lock (s : State) (o : Owner) (x : MemTransfer) : (s.issue o x).lock = s.lock := rfl
@[simp] theorem issue_segs (s : State) (o : Owner) (x : MemTransfer) : (s.issue o x).segs = s.segs := rfl
@[simp] theorem issue_progress (s : State) (o : Owner) (x : MemTransfer) : (s.issue o x).progress = s.progress := rfl
@[simp] theorem issue_queue (s : State) (o : Owner) (x : MemTransfer) : (s.issue o x).queue = s.queue := rfl
@[simp] theorem issue_retired (s : State) (o : Owner) (x : MemTransfer) : (s.issue o x).retired = s.retired := rfl
@[simp] theorem issue_intake (s : State) (o : Owner) (x : MemTransfer) : (s.issue o x).intake = s.intake := rfl
@[simp] theorem issue_entries (s : State) (o : Owner) (x : MemTransfer) : (s.issue o x).entries = s.entries := rfl
@[simp] theorem issue_placePresented (s : State) (o : Owner) (x : MemTransfer) : (s.issue o x).placePresented = s.placePresented := rfl
@[simp] theorem issue_stack0 (s : State) (o : Owner) (x : MemTransfer) : (s.issue o x).stack0 = s.stack0 := rfl
@[simp] theorem issue_stack1 (s : State) (o : Owner) (x : MemTransfer) : (s.issue o x).stack1 = s.stack1 := rfl
@[simp] theorem issue_sweep (s : State) (o : Owner) (x : MemTransfer) : (s.issue o x).sweep = s.sweep := rfl
@[simp] theorem issue_watch (s : State) (o : Owner) (x : MemTransfer) : (s.issue o x).watch = s.watch := rfl
@[simp] theorem issue_turn (s : State) (o : Owner) (x : MemTransfer) : (s.issue o x).turn = s.turn := rfl
@[simp] theorem issue_sweepWait (s : State) (o : Owner) (x : MemTransfer) : (s.issue o x).sweepWait = s.sweepWait := rfl
@[simp] theorem issue_lockState (s : State) (o : Owner) (x : MemTransfer) : (s.issue o x).lockState = s.lockState := rfl
@[simp] theorem issue_initialLead (s : State) (o : Owner) (x : MemTransfer) : (s.issue o x).initialLead = s.initialLead := rfl
@[simp] theorem issue_engine (s : State) (o : Owner) (x : MemTransfer) : (s.issue o x).engine = s.engine := rfl
@[simp] theorem issue_last (s : State) (o : Owner) (x : MemTransfer) : (s.issue o x).last = s.last := rfl
@[simp] theorem issue_flags (s : State) (o : Owner) (x : MemTransfer) : (s.issue o x).flags = s.flags := rfl
@[simp] theorem issue_enables (s : State) (o : Owner) (x : MemTransfer) : (s.issue o x).enables = s.enables := rfl
@[simp] theorem issue_attn (s : State) (o : Owner) (x : MemTransfer) : (s.issue o x).attn = s.attn := rfl
@[simp] theorem issue_counters (s : State) (o : Owner) (x : MemTransfer) : (s.issue o x).counters = s.counters := rfl
@[simp] theorem issue_rewriteCount (s : State) (o : Owner) (x : MemTransfer) : (s.issue o x).rewriteCount = s.rewriteCount := rfl
@[simp] theorem issue_rewrite (s : State) (o : Owner) (x : MemTransfer) : (s.issue o x).rewrite = s.rewrite := rfl
@[simp] theorem issue_mark (s : State) (o : Owner) (x : MemTransfer) : (s.issue o x).mark = s.mark := rfl
@[simp] theorem issue_requested (s : State) (o : Owner) (x : MemTransfer) : (s.issue o x).requested = s.requested := rfl
@[simp] theorem issue_retirements (s : State) (o : Owner) (x : MemTransfer) : (s.issue o x).retirements = s.retirements := rfl
@[simp] theorem issue_answers (s : State) (o : Owner) (x : MemTransfer) : (s.issue o x).answers = s.answers := rfl
@[simp] theorem issue_nextSlot (s : State) (o : Owner) (x : MemTransfer) : (s.issue o x).nextSlot = s.nextSlot := rfl
@[simp] theorem issue_nextEntry (s : State) (o : Owner) (x : MemTransfer) : (s.issue o x).nextEntry = s.nextEntry := rfl
@[simp] theorem issue_pending (s : State) (o : Owner) (x : MemTransfer) : (s.issue o x).pending = s.pending := rfl

/-! `State.land` -/

@[simp] theorem land_resetAsserted (s : State) (p : InFlight → Bool) : (s.land p).resetAsserted = s.resetAsserted := rfl
@[simp] theorem land_base (s : State) (p : InFlight → Bool) : (s.land p).base = s.base := rfl
@[simp] theorem land_level (s : State) (p : InFlight → Bool) : (s.land p).level = s.level := rfl
@[simp] theorem land_current (s : State) (p : InFlight → Bool) : (s.land p).current = s.current := rfl
@[simp] theorem land_lock (s : State) (p : InFlight → Bool) : (s.land p).lock = s.lock := rfl
@[simp] theorem land_segs (s : State) (p : InFlight → Bool) : (s.land p).segs = s.segs := rfl
@[simp] theorem land_progress (s : State) (p : InFlight → Bool) : (s.land p).progress = s.progress := rfl
@[simp] theorem land_queue (s : State) (p : InFlight → Bool) : (s.land p).queue = s.queue := rfl
@[simp] theorem land_retired (s : State) (p : InFlight → Bool) : (s.land p).retired = s.retired := rfl
@[simp] theorem land_intake (s : State) (p : InFlight → Bool) : (s.land p).intake = s.intake := rfl
@[simp] theorem land_entries (s : State) (p : InFlight → Bool) : (s.land p).entries = s.entries := rfl
@[simp] theorem land_placePresented (s : State) (p : InFlight → Bool) : (s.land p).placePresented = s.placePresented := rfl
@[simp] theorem land_stack0 (s : State) (p : InFlight → Bool) : (s.land p).stack0 = s.stack0 := rfl
@[simp] theorem land_stack1 (s : State) (p : InFlight → Bool) : (s.land p).stack1 = s.stack1 := rfl
@[simp] theorem land_sweep (s : State) (p : InFlight → Bool) : (s.land p).sweep = s.sweep := rfl
@[simp] theorem land_watch (s : State) (p : InFlight → Bool) : (s.land p).watch = s.watch := rfl
@[simp] theorem land_turn (s : State) (p : InFlight → Bool) : (s.land p).turn = s.turn := rfl
@[simp] theorem land_sweepWait (s : State) (p : InFlight → Bool) : (s.land p).sweepWait = s.sweepWait := rfl
@[simp] theorem land_lockState (s : State) (p : InFlight → Bool) : (s.land p).lockState = s.lockState := rfl
@[simp] theorem land_initialLead (s : State) (p : InFlight → Bool) : (s.land p).initialLead = s.initialLead := rfl
@[simp] theorem land_engine (s : State) (p : InFlight → Bool) : (s.land p).engine = s.engine := rfl
@[simp] theorem land_last (s : State) (p : InFlight → Bool) : (s.land p).last = s.last := rfl
@[simp] theorem land_flags (s : State) (p : InFlight → Bool) : (s.land p).flags = s.flags := rfl
@[simp] theorem land_enables (s : State) (p : InFlight → Bool) : (s.land p).enables = s.enables := rfl
@[simp] theorem land_attn (s : State) (p : InFlight → Bool) : (s.land p).attn = s.attn := rfl
@[simp] theorem land_counters (s : State) (p : InFlight → Bool) : (s.land p).counters = s.counters := rfl
@[simp] theorem land_rewriteCount (s : State) (p : InFlight → Bool) : (s.land p).rewriteCount = s.rewriteCount := rfl
@[simp] theorem land_rewrite (s : State) (p : InFlight → Bool) : (s.land p).rewrite = s.rewrite := rfl
@[simp] theorem land_mark (s : State) (p : InFlight → Bool) : (s.land p).mark = s.mark := rfl
@[simp] theorem land_requested (s : State) (p : InFlight → Bool) : (s.land p).requested = s.requested := rfl
@[simp] theorem land_retirements (s : State) (p : InFlight → Bool) : (s.land p).retirements = s.retirements := rfl
@[simp] theorem land_answers (s : State) (p : InFlight → Bool) : (s.land p).answers = s.answers := rfl
@[simp] theorem land_nextSlot (s : State) (p : InFlight → Bool) : (s.land p).nextSlot = s.nextSlot := rfl
@[simp] theorem land_nextEntry (s : State) (p : InFlight → Bool) : (s.land p).nextEntry = s.nextEntry := rfl
@[simp] theorem land_pending (s : State) (p : InFlight → Bool) : (s.land p).pending = s.pending := rfl

/-! `State.updateExposure` -/

@[simp] theorem updateExposure_resetAsserted (s : State) (id : Nat) (f : Exposure → Exposure) : (s.updateExposure id f).resetAsserted = s.resetAsserted := rfl
@[simp] theorem updateExposure_base (s : State) (id : Nat) (f : Exposure → Exposure) : (s.updateExposure id f).base = s.base := rfl
@[simp] theorem updateExposure_level (s : State) (id : Nat) (f : Exposure → Exposure) : (s.updateExposure id f).level = s.level := rfl
@[simp] theorem updateExposure_current (s : State) (id : Nat) (f : Exposure → Exposure) : (s.updateExposure id f).current = s.current := rfl
@[simp] theorem updateExposure_lock (s : State) (id : Nat) (f : Exposure → Exposure) : (s.updateExposure id f).lock = s.lock := rfl
@[simp] theorem updateExposure_segs (s : State) (id : Nat) (f : Exposure → Exposure) : (s.updateExposure id f).segs = s.segs := rfl
@[simp] theorem updateExposure_progress (s : State) (id : Nat) (f : Exposure → Exposure) : (s.updateExposure id f).progress = s.progress := rfl
@[simp] theorem updateExposure_retired (s : State) (id : Nat) (f : Exposure → Exposure) : (s.updateExposure id f).retired = s.retired := rfl
@[simp] theorem updateExposure_intake (s : State) (id : Nat) (f : Exposure → Exposure) : (s.updateExposure id f).intake = s.intake := rfl
@[simp] theorem updateExposure_entries (s : State) (id : Nat) (f : Exposure → Exposure) : (s.updateExposure id f).entries = s.entries := rfl
@[simp] theorem updateExposure_placePresented (s : State) (id : Nat) (f : Exposure → Exposure) : (s.updateExposure id f).placePresented = s.placePresented := rfl
@[simp] theorem updateExposure_stack0 (s : State) (id : Nat) (f : Exposure → Exposure) : (s.updateExposure id f).stack0 = s.stack0 := rfl
@[simp] theorem updateExposure_stack1 (s : State) (id : Nat) (f : Exposure → Exposure) : (s.updateExposure id f).stack1 = s.stack1 := rfl
@[simp] theorem updateExposure_sweep (s : State) (id : Nat) (f : Exposure → Exposure) : (s.updateExposure id f).sweep = s.sweep := rfl
@[simp] theorem updateExposure_watch (s : State) (id : Nat) (f : Exposure → Exposure) : (s.updateExposure id f).watch = s.watch := rfl
@[simp] theorem updateExposure_turn (s : State) (id : Nat) (f : Exposure → Exposure) : (s.updateExposure id f).turn = s.turn := rfl
@[simp] theorem updateExposure_sweepWait (s : State) (id : Nat) (f : Exposure → Exposure) : (s.updateExposure id f).sweepWait = s.sweepWait := rfl
@[simp] theorem updateExposure_lockState (s : State) (id : Nat) (f : Exposure → Exposure) : (s.updateExposure id f).lockState = s.lockState := rfl
@[simp] theorem updateExposure_inFlight (s : State) (id : Nat) (f : Exposure → Exposure) : (s.updateExposure id f).inFlight = s.inFlight := rfl
@[simp] theorem updateExposure_initialLead (s : State) (id : Nat) (f : Exposure → Exposure) : (s.updateExposure id f).initialLead = s.initialLead := rfl
@[simp] theorem updateExposure_engine (s : State) (id : Nat) (f : Exposure → Exposure) : (s.updateExposure id f).engine = s.engine := rfl
@[simp] theorem updateExposure_last (s : State) (id : Nat) (f : Exposure → Exposure) : (s.updateExposure id f).last = s.last := rfl
@[simp] theorem updateExposure_flags (s : State) (id : Nat) (f : Exposure → Exposure) : (s.updateExposure id f).flags = s.flags := rfl
@[simp] theorem updateExposure_enables (s : State) (id : Nat) (f : Exposure → Exposure) : (s.updateExposure id f).enables = s.enables := rfl
@[simp] theorem updateExposure_attn (s : State) (id : Nat) (f : Exposure → Exposure) : (s.updateExposure id f).attn = s.attn := rfl
@[simp] theorem updateExposure_counters (s : State) (id : Nat) (f : Exposure → Exposure) : (s.updateExposure id f).counters = s.counters := rfl
@[simp] theorem updateExposure_rewriteCount (s : State) (id : Nat) (f : Exposure → Exposure) : (s.updateExposure id f).rewriteCount = s.rewriteCount := rfl
@[simp] theorem updateExposure_rewrite (s : State) (id : Nat) (f : Exposure → Exposure) : (s.updateExposure id f).rewrite = s.rewrite := rfl
@[simp] theorem updateExposure_mark (s : State) (id : Nat) (f : Exposure → Exposure) : (s.updateExposure id f).mark = s.mark := rfl
@[simp] theorem updateExposure_requested (s : State) (id : Nat) (f : Exposure → Exposure) : (s.updateExposure id f).requested = s.requested := rfl
@[simp] theorem updateExposure_retirements (s : State) (id : Nat) (f : Exposure → Exposure) : (s.updateExposure id f).retirements = s.retirements := rfl
@[simp] theorem updateExposure_answers (s : State) (id : Nat) (f : Exposure → Exposure) : (s.updateExposure id f).answers = s.answers := rfl
@[simp] theorem updateExposure_nextSlot (s : State) (id : Nat) (f : Exposure → Exposure) : (s.updateExposure id f).nextSlot = s.nextSlot := rfl
@[simp] theorem updateExposure_nextEntry (s : State) (id : Nat) (f : Exposure → Exposure) : (s.updateExposure id f).nextEntry = s.nextEntry := rfl
@[simp] theorem updateExposure_pending (s : State) (id : Nat) (f : Exposure → Exposure) : (s.updateExposure id f).pending = s.pending := rfl

/-! `State.updateSlot` -/

@[simp] theorem updateSlot_resetAsserted (s : State) (n : Nat) (f : IntakeSlot → IntakeSlot) : (s.updateSlot n f).resetAsserted = s.resetAsserted := rfl
@[simp] theorem updateSlot_base (s : State) (n : Nat) (f : IntakeSlot → IntakeSlot) : (s.updateSlot n f).base = s.base := rfl
@[simp] theorem updateSlot_level (s : State) (n : Nat) (f : IntakeSlot → IntakeSlot) : (s.updateSlot n f).level = s.level := rfl
@[simp] theorem updateSlot_current (s : State) (n : Nat) (f : IntakeSlot → IntakeSlot) : (s.updateSlot n f).current = s.current := rfl
@[simp] theorem updateSlot_lock (s : State) (n : Nat) (f : IntakeSlot → IntakeSlot) : (s.updateSlot n f).lock = s.lock := rfl
@[simp] theorem updateSlot_segs (s : State) (n : Nat) (f : IntakeSlot → IntakeSlot) : (s.updateSlot n f).segs = s.segs := rfl
@[simp] theorem updateSlot_progress (s : State) (n : Nat) (f : IntakeSlot → IntakeSlot) : (s.updateSlot n f).progress = s.progress := rfl
@[simp] theorem updateSlot_queue (s : State) (n : Nat) (f : IntakeSlot → IntakeSlot) : (s.updateSlot n f).queue = s.queue := rfl
@[simp] theorem updateSlot_retired (s : State) (n : Nat) (f : IntakeSlot → IntakeSlot) : (s.updateSlot n f).retired = s.retired := rfl
@[simp] theorem updateSlot_entries (s : State) (n : Nat) (f : IntakeSlot → IntakeSlot) : (s.updateSlot n f).entries = s.entries := rfl
@[simp] theorem updateSlot_placePresented (s : State) (n : Nat) (f : IntakeSlot → IntakeSlot) : (s.updateSlot n f).placePresented = s.placePresented := rfl
@[simp] theorem updateSlot_stack0 (s : State) (n : Nat) (f : IntakeSlot → IntakeSlot) : (s.updateSlot n f).stack0 = s.stack0 := rfl
@[simp] theorem updateSlot_stack1 (s : State) (n : Nat) (f : IntakeSlot → IntakeSlot) : (s.updateSlot n f).stack1 = s.stack1 := rfl
@[simp] theorem updateSlot_sweep (s : State) (n : Nat) (f : IntakeSlot → IntakeSlot) : (s.updateSlot n f).sweep = s.sweep := rfl
@[simp] theorem updateSlot_watch (s : State) (n : Nat) (f : IntakeSlot → IntakeSlot) : (s.updateSlot n f).watch = s.watch := rfl
@[simp] theorem updateSlot_turn (s : State) (n : Nat) (f : IntakeSlot → IntakeSlot) : (s.updateSlot n f).turn = s.turn := rfl
@[simp] theorem updateSlot_sweepWait (s : State) (n : Nat) (f : IntakeSlot → IntakeSlot) : (s.updateSlot n f).sweepWait = s.sweepWait := rfl
@[simp] theorem updateSlot_lockState (s : State) (n : Nat) (f : IntakeSlot → IntakeSlot) : (s.updateSlot n f).lockState = s.lockState := rfl
@[simp] theorem updateSlot_inFlight (s : State) (n : Nat) (f : IntakeSlot → IntakeSlot) : (s.updateSlot n f).inFlight = s.inFlight := rfl
@[simp] theorem updateSlot_initialLead (s : State) (n : Nat) (f : IntakeSlot → IntakeSlot) : (s.updateSlot n f).initialLead = s.initialLead := rfl
@[simp] theorem updateSlot_engine (s : State) (n : Nat) (f : IntakeSlot → IntakeSlot) : (s.updateSlot n f).engine = s.engine := rfl
@[simp] theorem updateSlot_last (s : State) (n : Nat) (f : IntakeSlot → IntakeSlot) : (s.updateSlot n f).last = s.last := rfl
@[simp] theorem updateSlot_flags (s : State) (n : Nat) (f : IntakeSlot → IntakeSlot) : (s.updateSlot n f).flags = s.flags := rfl
@[simp] theorem updateSlot_enables (s : State) (n : Nat) (f : IntakeSlot → IntakeSlot) : (s.updateSlot n f).enables = s.enables := rfl
@[simp] theorem updateSlot_attn (s : State) (n : Nat) (f : IntakeSlot → IntakeSlot) : (s.updateSlot n f).attn = s.attn := rfl
@[simp] theorem updateSlot_counters (s : State) (n : Nat) (f : IntakeSlot → IntakeSlot) : (s.updateSlot n f).counters = s.counters := rfl
@[simp] theorem updateSlot_rewriteCount (s : State) (n : Nat) (f : IntakeSlot → IntakeSlot) : (s.updateSlot n f).rewriteCount = s.rewriteCount := rfl
@[simp] theorem updateSlot_rewrite (s : State) (n : Nat) (f : IntakeSlot → IntakeSlot) : (s.updateSlot n f).rewrite = s.rewrite := rfl
@[simp] theorem updateSlot_mark (s : State) (n : Nat) (f : IntakeSlot → IntakeSlot) : (s.updateSlot n f).mark = s.mark := rfl
@[simp] theorem updateSlot_requested (s : State) (n : Nat) (f : IntakeSlot → IntakeSlot) : (s.updateSlot n f).requested = s.requested := rfl
@[simp] theorem updateSlot_retirements (s : State) (n : Nat) (f : IntakeSlot → IntakeSlot) : (s.updateSlot n f).retirements = s.retirements := rfl
@[simp] theorem updateSlot_answers (s : State) (n : Nat) (f : IntakeSlot → IntakeSlot) : (s.updateSlot n f).answers = s.answers := rfl
@[simp] theorem updateSlot_nextSlot (s : State) (n : Nat) (f : IntakeSlot → IntakeSlot) : (s.updateSlot n f).nextSlot = s.nextSlot := rfl
@[simp] theorem updateSlot_nextEntry (s : State) (n : Nat) (f : IntakeSlot → IntakeSlot) : (s.updateSlot n f).nextEntry = s.nextEntry := rfl
@[simp] theorem updateSlot_pending (s : State) (n : Nat) (f : IntakeSlot → IntakeSlot) : (s.updateSlot n f).pending = s.pending := rfl

/-! `State.updateEntry` -/

@[simp] theorem updateEntry_resetAsserted (s : State) (n : Nat) (f : Entry → Entry) : (s.updateEntry n f).resetAsserted = s.resetAsserted := rfl
@[simp] theorem updateEntry_base (s : State) (n : Nat) (f : Entry → Entry) : (s.updateEntry n f).base = s.base := rfl
@[simp] theorem updateEntry_level (s : State) (n : Nat) (f : Entry → Entry) : (s.updateEntry n f).level = s.level := rfl
@[simp] theorem updateEntry_current (s : State) (n : Nat) (f : Entry → Entry) : (s.updateEntry n f).current = s.current := rfl
@[simp] theorem updateEntry_lock (s : State) (n : Nat) (f : Entry → Entry) : (s.updateEntry n f).lock = s.lock := rfl
@[simp] theorem updateEntry_segs (s : State) (n : Nat) (f : Entry → Entry) : (s.updateEntry n f).segs = s.segs := rfl
@[simp] theorem updateEntry_progress (s : State) (n : Nat) (f : Entry → Entry) : (s.updateEntry n f).progress = s.progress := rfl
@[simp] theorem updateEntry_queue (s : State) (n : Nat) (f : Entry → Entry) : (s.updateEntry n f).queue = s.queue := rfl
@[simp] theorem updateEntry_retired (s : State) (n : Nat) (f : Entry → Entry) : (s.updateEntry n f).retired = s.retired := rfl
@[simp] theorem updateEntry_intake (s : State) (n : Nat) (f : Entry → Entry) : (s.updateEntry n f).intake = s.intake := rfl
@[simp] theorem updateEntry_placePresented (s : State) (n : Nat) (f : Entry → Entry) : (s.updateEntry n f).placePresented = s.placePresented := rfl
@[simp] theorem updateEntry_stack0 (s : State) (n : Nat) (f : Entry → Entry) : (s.updateEntry n f).stack0 = s.stack0 := rfl
@[simp] theorem updateEntry_stack1 (s : State) (n : Nat) (f : Entry → Entry) : (s.updateEntry n f).stack1 = s.stack1 := rfl
@[simp] theorem updateEntry_sweep (s : State) (n : Nat) (f : Entry → Entry) : (s.updateEntry n f).sweep = s.sweep := rfl
@[simp] theorem updateEntry_watch (s : State) (n : Nat) (f : Entry → Entry) : (s.updateEntry n f).watch = s.watch := rfl
@[simp] theorem updateEntry_turn (s : State) (n : Nat) (f : Entry → Entry) : (s.updateEntry n f).turn = s.turn := rfl
@[simp] theorem updateEntry_sweepWait (s : State) (n : Nat) (f : Entry → Entry) : (s.updateEntry n f).sweepWait = s.sweepWait := rfl
@[simp] theorem updateEntry_lockState (s : State) (n : Nat) (f : Entry → Entry) : (s.updateEntry n f).lockState = s.lockState := rfl
@[simp] theorem updateEntry_inFlight (s : State) (n : Nat) (f : Entry → Entry) : (s.updateEntry n f).inFlight = s.inFlight := rfl
@[simp] theorem updateEntry_initialLead (s : State) (n : Nat) (f : Entry → Entry) : (s.updateEntry n f).initialLead = s.initialLead := rfl
@[simp] theorem updateEntry_engine (s : State) (n : Nat) (f : Entry → Entry) : (s.updateEntry n f).engine = s.engine := rfl
@[simp] theorem updateEntry_last (s : State) (n : Nat) (f : Entry → Entry) : (s.updateEntry n f).last = s.last := rfl
@[simp] theorem updateEntry_flags (s : State) (n : Nat) (f : Entry → Entry) : (s.updateEntry n f).flags = s.flags := rfl
@[simp] theorem updateEntry_enables (s : State) (n : Nat) (f : Entry → Entry) : (s.updateEntry n f).enables = s.enables := rfl
@[simp] theorem updateEntry_attn (s : State) (n : Nat) (f : Entry → Entry) : (s.updateEntry n f).attn = s.attn := rfl
@[simp] theorem updateEntry_counters (s : State) (n : Nat) (f : Entry → Entry) : (s.updateEntry n f).counters = s.counters := rfl
@[simp] theorem updateEntry_rewriteCount (s : State) (n : Nat) (f : Entry → Entry) : (s.updateEntry n f).rewriteCount = s.rewriteCount := rfl
@[simp] theorem updateEntry_rewrite (s : State) (n : Nat) (f : Entry → Entry) : (s.updateEntry n f).rewrite = s.rewrite := rfl
@[simp] theorem updateEntry_mark (s : State) (n : Nat) (f : Entry → Entry) : (s.updateEntry n f).mark = s.mark := rfl
@[simp] theorem updateEntry_requested (s : State) (n : Nat) (f : Entry → Entry) : (s.updateEntry n f).requested = s.requested := rfl
@[simp] theorem updateEntry_retirements (s : State) (n : Nat) (f : Entry → Entry) : (s.updateEntry n f).retirements = s.retirements := rfl
@[simp] theorem updateEntry_answers (s : State) (n : Nat) (f : Entry → Entry) : (s.updateEntry n f).answers = s.answers := rfl
@[simp] theorem updateEntry_nextSlot (s : State) (n : Nat) (f : Entry → Entry) : (s.updateEntry n f).nextSlot = s.nextSlot := rfl
@[simp] theorem updateEntry_nextEntry (s : State) (n : Nat) (f : Entry → Entry) : (s.updateEntry n f).nextEntry = s.nextEntry := rfl
@[simp] theorem updateEntry_pending (s : State) (n : Nat) (f : Entry → Entry) : (s.updateEntry n f).pending = s.pending := rfl

/-! `State.dropEntry` -/

@[simp] theorem dropEntry_resetAsserted (s : State) (n : Nat) : (s.dropEntry n).resetAsserted = s.resetAsserted := rfl
@[simp] theorem dropEntry_base (s : State) (n : Nat) : (s.dropEntry n).base = s.base := rfl
@[simp] theorem dropEntry_level (s : State) (n : Nat) : (s.dropEntry n).level = s.level := rfl
@[simp] theorem dropEntry_current (s : State) (n : Nat) : (s.dropEntry n).current = s.current := rfl
@[simp] theorem dropEntry_lock (s : State) (n : Nat) : (s.dropEntry n).lock = s.lock := rfl
@[simp] theorem dropEntry_segs (s : State) (n : Nat) : (s.dropEntry n).segs = s.segs := rfl
@[simp] theorem dropEntry_progress (s : State) (n : Nat) : (s.dropEntry n).progress = s.progress := rfl
@[simp] theorem dropEntry_queue (s : State) (n : Nat) : (s.dropEntry n).queue = s.queue := rfl
@[simp] theorem dropEntry_retired (s : State) (n : Nat) : (s.dropEntry n).retired = s.retired := rfl
@[simp] theorem dropEntry_intake (s : State) (n : Nat) : (s.dropEntry n).intake = s.intake := rfl
@[simp] theorem dropEntry_placePresented (s : State) (n : Nat) : (s.dropEntry n).placePresented = s.placePresented := rfl
@[simp] theorem dropEntry_stack0 (s : State) (n : Nat) : (s.dropEntry n).stack0 = s.stack0 := rfl
@[simp] theorem dropEntry_stack1 (s : State) (n : Nat) : (s.dropEntry n).stack1 = s.stack1 := rfl
@[simp] theorem dropEntry_sweep (s : State) (n : Nat) : (s.dropEntry n).sweep = s.sweep := rfl
@[simp] theorem dropEntry_watch (s : State) (n : Nat) : (s.dropEntry n).watch = s.watch := rfl
@[simp] theorem dropEntry_turn (s : State) (n : Nat) : (s.dropEntry n).turn = s.turn := rfl
@[simp] theorem dropEntry_sweepWait (s : State) (n : Nat) : (s.dropEntry n).sweepWait = s.sweepWait := rfl
@[simp] theorem dropEntry_lockState (s : State) (n : Nat) : (s.dropEntry n).lockState = s.lockState := rfl
@[simp] theorem dropEntry_inFlight (s : State) (n : Nat) : (s.dropEntry n).inFlight = s.inFlight := rfl
@[simp] theorem dropEntry_initialLead (s : State) (n : Nat) : (s.dropEntry n).initialLead = s.initialLead := rfl
@[simp] theorem dropEntry_engine (s : State) (n : Nat) : (s.dropEntry n).engine = s.engine := rfl
@[simp] theorem dropEntry_last (s : State) (n : Nat) : (s.dropEntry n).last = s.last := rfl
@[simp] theorem dropEntry_flags (s : State) (n : Nat) : (s.dropEntry n).flags = s.flags := rfl
@[simp] theorem dropEntry_enables (s : State) (n : Nat) : (s.dropEntry n).enables = s.enables := rfl
@[simp] theorem dropEntry_attn (s : State) (n : Nat) : (s.dropEntry n).attn = s.attn := rfl
@[simp] theorem dropEntry_counters (s : State) (n : Nat) : (s.dropEntry n).counters = s.counters := rfl
@[simp] theorem dropEntry_rewriteCount (s : State) (n : Nat) : (s.dropEntry n).rewriteCount = s.rewriteCount := rfl
@[simp] theorem dropEntry_rewrite (s : State) (n : Nat) : (s.dropEntry n).rewrite = s.rewrite := rfl
@[simp] theorem dropEntry_mark (s : State) (n : Nat) : (s.dropEntry n).mark = s.mark := rfl
@[simp] theorem dropEntry_requested (s : State) (n : Nat) : (s.dropEntry n).requested = s.requested := rfl
@[simp] theorem dropEntry_retirements (s : State) (n : Nat) : (s.dropEntry n).retirements = s.retirements := rfl
@[simp] theorem dropEntry_answers (s : State) (n : Nat) : (s.dropEntry n).answers = s.answers := rfl
@[simp] theorem dropEntry_nextSlot (s : State) (n : Nat) : (s.dropEntry n).nextSlot = s.nextSlot := rfl
@[simp] theorem dropEntry_nextEntry (s : State) (n : Nat) : (s.dropEntry n).nextEntry = s.nextEntry := rfl
@[simp] theorem dropEntry_pending (s : State) (n : Nat) : (s.dropEntry n).pending = s.pending := rfl

/-! `State.settleIntake` -/

@[simp] theorem settleIntake_resetAsserted (s : State) : s.settleIntake.resetAsserted = s.resetAsserted := rfl
@[simp] theorem settleIntake_base (s : State) : s.settleIntake.base = s.base := rfl
@[simp] theorem settleIntake_level (s : State) : s.settleIntake.level = s.level := rfl
@[simp] theorem settleIntake_current (s : State) : s.settleIntake.current = s.current := rfl
@[simp] theorem settleIntake_lock (s : State) : s.settleIntake.lock = s.lock := rfl
@[simp] theorem settleIntake_segs (s : State) : s.settleIntake.segs = s.segs := rfl
@[simp] theorem settleIntake_progress (s : State) : s.settleIntake.progress = s.progress := rfl
@[simp] theorem settleIntake_queue (s : State) : s.settleIntake.queue = s.queue := rfl
@[simp] theorem settleIntake_retired (s : State) : s.settleIntake.retired = s.retired := rfl
@[simp] theorem settleIntake_entries (s : State) : s.settleIntake.entries = s.entries := rfl
@[simp] theorem settleIntake_placePresented (s : State) : s.settleIntake.placePresented = s.placePresented := rfl
@[simp] theorem settleIntake_stack0 (s : State) : s.settleIntake.stack0 = s.stack0 := rfl
@[simp] theorem settleIntake_stack1 (s : State) : s.settleIntake.stack1 = s.stack1 := rfl
@[simp] theorem settleIntake_sweep (s : State) : s.settleIntake.sweep = s.sweep := rfl
@[simp] theorem settleIntake_watch (s : State) : s.settleIntake.watch = s.watch := rfl
@[simp] theorem settleIntake_turn (s : State) : s.settleIntake.turn = s.turn := rfl
@[simp] theorem settleIntake_sweepWait (s : State) : s.settleIntake.sweepWait = s.sweepWait := rfl
@[simp] theorem settleIntake_lockState (s : State) : s.settleIntake.lockState = s.lockState := rfl
@[simp] theorem settleIntake_inFlight (s : State) : s.settleIntake.inFlight = s.inFlight := rfl
@[simp] theorem settleIntake_initialLead (s : State) : s.settleIntake.initialLead = s.initialLead := rfl
@[simp] theorem settleIntake_engine (s : State) : s.settleIntake.engine = s.engine := rfl
@[simp] theorem settleIntake_last (s : State) : s.settleIntake.last = s.last := rfl
@[simp] theorem settleIntake_flags (s : State) : s.settleIntake.flags = s.flags := rfl
@[simp] theorem settleIntake_enables (s : State) : s.settleIntake.enables = s.enables := rfl
@[simp] theorem settleIntake_attn (s : State) : s.settleIntake.attn = s.attn := rfl
@[simp] theorem settleIntake_counters (s : State) : s.settleIntake.counters = s.counters := rfl
@[simp] theorem settleIntake_rewriteCount (s : State) : s.settleIntake.rewriteCount = s.rewriteCount := rfl
@[simp] theorem settleIntake_rewrite (s : State) : s.settleIntake.rewrite = s.rewrite := rfl
@[simp] theorem settleIntake_mark (s : State) : s.settleIntake.mark = s.mark := rfl
@[simp] theorem settleIntake_requested (s : State) : s.settleIntake.requested = s.requested := rfl
@[simp] theorem settleIntake_retirements (s : State) : s.settleIntake.retirements = s.retirements := rfl
@[simp] theorem settleIntake_answers (s : State) : s.settleIntake.answers = s.answers := rfl
@[simp] theorem settleIntake_nextSlot (s : State) : s.settleIntake.nextSlot = s.nextSlot := rfl
@[simp] theorem settleIntake_nextEntry (s : State) : s.settleIntake.nextEntry = s.nextEntry := rfl
@[simp] theorem settleIntake_pending (s : State) : s.settleIntake.pending = s.pending := rfl

/-! `State.setFlag` -/

@[simp] theorem setFlag_resetAsserted (s : State) (f : Flag) : (s.setFlag f).resetAsserted = s.resetAsserted := by unfold State.setFlag; split <;> rfl
@[simp] theorem setFlag_base (s : State) (f : Flag) : (s.setFlag f).base = s.base := by unfold State.setFlag; split <;> rfl
@[simp] theorem setFlag_level (s : State) (f : Flag) : (s.setFlag f).level = s.level := by unfold State.setFlag; split <;> rfl
@[simp] theorem setFlag_current (s : State) (f : Flag) : (s.setFlag f).current = s.current := by unfold State.setFlag; split <;> rfl
@[simp] theorem setFlag_lock (s : State) (f : Flag) : (s.setFlag f).lock = s.lock := by unfold State.setFlag; split <;> rfl
@[simp] theorem setFlag_segs (s : State) (f : Flag) : (s.setFlag f).segs = s.segs := by unfold State.setFlag; split <;> rfl
@[simp] theorem setFlag_progress (s : State) (f : Flag) : (s.setFlag f).progress = s.progress := by unfold State.setFlag; split <;> rfl
@[simp] theorem setFlag_queue (s : State) (f : Flag) : (s.setFlag f).queue = s.queue := by unfold State.setFlag; split <;> rfl
@[simp] theorem setFlag_retired (s : State) (f : Flag) : (s.setFlag f).retired = s.retired := by unfold State.setFlag; split <;> rfl
@[simp] theorem setFlag_intake (s : State) (f : Flag) : (s.setFlag f).intake = s.intake := by unfold State.setFlag; split <;> rfl
@[simp] theorem setFlag_entries (s : State) (f : Flag) : (s.setFlag f).entries = s.entries := by unfold State.setFlag; split <;> rfl
@[simp] theorem setFlag_placePresented (s : State) (f : Flag) : (s.setFlag f).placePresented = s.placePresented := by unfold State.setFlag; split <;> rfl
@[simp] theorem setFlag_stack0 (s : State) (f : Flag) : (s.setFlag f).stack0 = s.stack0 := by unfold State.setFlag; split <;> rfl
@[simp] theorem setFlag_stack1 (s : State) (f : Flag) : (s.setFlag f).stack1 = s.stack1 := by unfold State.setFlag; split <;> rfl
@[simp] theorem setFlag_sweep (s : State) (f : Flag) : (s.setFlag f).sweep = s.sweep := by unfold State.setFlag; split <;> rfl
@[simp] theorem setFlag_watch (s : State) (f : Flag) : (s.setFlag f).watch = s.watch := by unfold State.setFlag; split <;> rfl
@[simp] theorem setFlag_turn (s : State) (f : Flag) : (s.setFlag f).turn = s.turn := by unfold State.setFlag; split <;> rfl
@[simp] theorem setFlag_sweepWait (s : State) (f : Flag) : (s.setFlag f).sweepWait = s.sweepWait := by unfold State.setFlag; split <;> rfl
@[simp] theorem setFlag_lockState (s : State) (f : Flag) : (s.setFlag f).lockState = s.lockState := by unfold State.setFlag; split <;> rfl
@[simp] theorem setFlag_inFlight (s : State) (f : Flag) : (s.setFlag f).inFlight = s.inFlight := by unfold State.setFlag; split <;> rfl
@[simp] theorem setFlag_initialLead (s : State) (f : Flag) : (s.setFlag f).initialLead = s.initialLead := by unfold State.setFlag; split <;> rfl
@[simp] theorem setFlag_engine (s : State) (f : Flag) : (s.setFlag f).engine = s.engine := by unfold State.setFlag; split <;> rfl
@[simp] theorem setFlag_last (s : State) (f : Flag) : (s.setFlag f).last = s.last := by unfold State.setFlag; split <;> rfl
@[simp] theorem setFlag_enables (s : State) (f : Flag) : (s.setFlag f).enables = s.enables := by unfold State.setFlag; split <;> rfl
@[simp] theorem setFlag_counters (s : State) (f : Flag) : (s.setFlag f).counters = s.counters := by unfold State.setFlag; split <;> rfl
@[simp] theorem setFlag_rewriteCount (s : State) (f : Flag) : (s.setFlag f).rewriteCount = s.rewriteCount := by unfold State.setFlag; split <;> rfl
@[simp] theorem setFlag_rewrite (s : State) (f : Flag) : (s.setFlag f).rewrite = s.rewrite := by unfold State.setFlag; split <;> rfl
@[simp] theorem setFlag_mark (s : State) (f : Flag) : (s.setFlag f).mark = s.mark := by unfold State.setFlag; split <;> rfl
@[simp] theorem setFlag_retirements (s : State) (f : Flag) : (s.setFlag f).retirements = s.retirements := by unfold State.setFlag; split <;> rfl
@[simp] theorem setFlag_answers (s : State) (f : Flag) : (s.setFlag f).answers = s.answers := by unfold State.setFlag; split <;> rfl
@[simp] theorem setFlag_nextSlot (s : State) (f : Flag) : (s.setFlag f).nextSlot = s.nextSlot := by unfold State.setFlag; split <;> rfl
@[simp] theorem setFlag_nextEntry (s : State) (f : Flag) : (s.setFlag f).nextEntry = s.nextEntry := by unfold State.setFlag; split <;> rfl
@[simp] theorem setFlag_pending (s : State) (f : Flag) : (s.setFlag f).pending = s.pending := by unfold State.setFlag; split <;> rfl

/-! `State.clearFlags` -/

@[simp] theorem clearFlags_resetAsserted (s : State) (m : BitVec 15) : (s.clearFlags m).resetAsserted = s.resetAsserted := by unfold State.clearFlags; split <;> rfl
@[simp] theorem clearFlags_base (s : State) (m : BitVec 15) : (s.clearFlags m).base = s.base := by unfold State.clearFlags; split <;> rfl
@[simp] theorem clearFlags_level (s : State) (m : BitVec 15) : (s.clearFlags m).level = s.level := by unfold State.clearFlags; split <;> rfl
@[simp] theorem clearFlags_current (s : State) (m : BitVec 15) : (s.clearFlags m).current = s.current := by unfold State.clearFlags; split <;> rfl
@[simp] theorem clearFlags_lock (s : State) (m : BitVec 15) : (s.clearFlags m).lock = s.lock := by unfold State.clearFlags; split <;> rfl
@[simp] theorem clearFlags_segs (s : State) (m : BitVec 15) : (s.clearFlags m).segs = s.segs := by unfold State.clearFlags; split <;> rfl
@[simp] theorem clearFlags_progress (s : State) (m : BitVec 15) : (s.clearFlags m).progress = s.progress := by unfold State.clearFlags; split <;> rfl
@[simp] theorem clearFlags_queue (s : State) (m : BitVec 15) : (s.clearFlags m).queue = s.queue := by unfold State.clearFlags; split <;> rfl
@[simp] theorem clearFlags_retired (s : State) (m : BitVec 15) : (s.clearFlags m).retired = s.retired := by unfold State.clearFlags; split <;> rfl
@[simp] theorem clearFlags_intake (s : State) (m : BitVec 15) : (s.clearFlags m).intake = s.intake := by unfold State.clearFlags; split <;> rfl
@[simp] theorem clearFlags_entries (s : State) (m : BitVec 15) : (s.clearFlags m).entries = s.entries := by unfold State.clearFlags; split <;> rfl
@[simp] theorem clearFlags_placePresented (s : State) (m : BitVec 15) : (s.clearFlags m).placePresented = s.placePresented := by unfold State.clearFlags; split <;> rfl
@[simp] theorem clearFlags_stack0 (s : State) (m : BitVec 15) : (s.clearFlags m).stack0 = s.stack0 := by unfold State.clearFlags; split <;> rfl
@[simp] theorem clearFlags_stack1 (s : State) (m : BitVec 15) : (s.clearFlags m).stack1 = s.stack1 := by unfold State.clearFlags; split <;> rfl
@[simp] theorem clearFlags_sweep (s : State) (m : BitVec 15) : (s.clearFlags m).sweep = s.sweep := by unfold State.clearFlags; split <;> rfl
@[simp] theorem clearFlags_watch (s : State) (m : BitVec 15) : (s.clearFlags m).watch = s.watch := by unfold State.clearFlags; split <;> rfl
@[simp] theorem clearFlags_turn (s : State) (m : BitVec 15) : (s.clearFlags m).turn = s.turn := by unfold State.clearFlags; split <;> rfl
@[simp] theorem clearFlags_sweepWait (s : State) (m : BitVec 15) : (s.clearFlags m).sweepWait = s.sweepWait := by unfold State.clearFlags; split <;> rfl
@[simp] theorem clearFlags_lockState (s : State) (m : BitVec 15) : (s.clearFlags m).lockState = s.lockState := by unfold State.clearFlags; split <;> rfl
@[simp] theorem clearFlags_inFlight (s : State) (m : BitVec 15) : (s.clearFlags m).inFlight = s.inFlight := by unfold State.clearFlags; split <;> rfl
@[simp] theorem clearFlags_initialLead (s : State) (m : BitVec 15) : (s.clearFlags m).initialLead = s.initialLead := by unfold State.clearFlags; split <;> rfl
@[simp] theorem clearFlags_engine (s : State) (m : BitVec 15) : (s.clearFlags m).engine = s.engine := by unfold State.clearFlags; split <;> rfl
@[simp] theorem clearFlags_last (s : State) (m : BitVec 15) : (s.clearFlags m).last = s.last := by unfold State.clearFlags; split <;> rfl
@[simp] theorem clearFlags_enables (s : State) (m : BitVec 15) : (s.clearFlags m).enables = s.enables := by unfold State.clearFlags; split <;> rfl
@[simp] theorem clearFlags_counters (s : State) (m : BitVec 15) : (s.clearFlags m).counters = s.counters := by unfold State.clearFlags; split <;> rfl
@[simp] theorem clearFlags_rewriteCount (s : State) (m : BitVec 15) : (s.clearFlags m).rewriteCount = s.rewriteCount := by unfold State.clearFlags; split <;> rfl
@[simp] theorem clearFlags_rewrite (s : State) (m : BitVec 15) : (s.clearFlags m).rewrite = s.rewrite := by unfold State.clearFlags; split <;> rfl
@[simp] theorem clearFlags_mark (s : State) (m : BitVec 15) : (s.clearFlags m).mark = s.mark := by unfold State.clearFlags; split <;> rfl
@[simp] theorem clearFlags_retirements (s : State) (m : BitVec 15) : (s.clearFlags m).retirements = s.retirements := by unfold State.clearFlags; split <;> rfl
@[simp] theorem clearFlags_answers (s : State) (m : BitVec 15) : (s.clearFlags m).answers = s.answers := by unfold State.clearFlags; split <;> rfl
@[simp] theorem clearFlags_nextSlot (s : State) (m : BitVec 15) : (s.clearFlags m).nextSlot = s.nextSlot := by unfold State.clearFlags; split <;> rfl
@[simp] theorem clearFlags_nextEntry (s : State) (m : BitVec 15) : (s.clearFlags m).nextEntry = s.nextEntry := by unfold State.clearFlags; split <;> rfl
@[simp] theorem clearFlags_pending (s : State) (m : BitVec 15) : (s.clearFlags m).pending = s.pending := by unfold State.clearFlags; split <;> rfl

/-! `State.setStack` -/

@[simp] theorem setStack_resetAsserted (s : State) (k : StackSlot) (r : StackRecord) : (s.setStack k r).resetAsserted = s.resetAsserted := by cases k <;> rfl
@[simp] theorem setStack_base (s : State) (k : StackSlot) (r : StackRecord) : (s.setStack k r).base = s.base := by cases k <;> rfl
@[simp] theorem setStack_level (s : State) (k : StackSlot) (r : StackRecord) : (s.setStack k r).level = s.level := by cases k <;> rfl
@[simp] theorem setStack_current (s : State) (k : StackSlot) (r : StackRecord) : (s.setStack k r).current = s.current := by cases k <;> rfl
@[simp] theorem setStack_lock (s : State) (k : StackSlot) (r : StackRecord) : (s.setStack k r).lock = s.lock := by cases k <;> rfl
@[simp] theorem setStack_segs (s : State) (k : StackSlot) (r : StackRecord) : (s.setStack k r).segs = s.segs := by cases k <;> rfl
@[simp] theorem setStack_progress (s : State) (k : StackSlot) (r : StackRecord) : (s.setStack k r).progress = s.progress := by cases k <;> rfl
@[simp] theorem setStack_queue (s : State) (k : StackSlot) (r : StackRecord) : (s.setStack k r).queue = s.queue := by cases k <;> rfl
@[simp] theorem setStack_retired (s : State) (k : StackSlot) (r : StackRecord) : (s.setStack k r).retired = s.retired := by cases k <;> rfl
@[simp] theorem setStack_intake (s : State) (k : StackSlot) (r : StackRecord) : (s.setStack k r).intake = s.intake := by cases k <;> rfl
@[simp] theorem setStack_entries (s : State) (k : StackSlot) (r : StackRecord) : (s.setStack k r).entries = s.entries := by cases k <;> rfl
@[simp] theorem setStack_placePresented (s : State) (k : StackSlot) (r : StackRecord) : (s.setStack k r).placePresented = s.placePresented := by cases k <;> rfl
@[simp] theorem setStack_sweep (s : State) (k : StackSlot) (r : StackRecord) : (s.setStack k r).sweep = s.sweep := by cases k <;> rfl
@[simp] theorem setStack_watch (s : State) (k : StackSlot) (r : StackRecord) : (s.setStack k r).watch = s.watch := by cases k <;> rfl
@[simp] theorem setStack_turn (s : State) (k : StackSlot) (r : StackRecord) : (s.setStack k r).turn = s.turn := by cases k <;> rfl
@[simp] theorem setStack_sweepWait (s : State) (k : StackSlot) (r : StackRecord) : (s.setStack k r).sweepWait = s.sweepWait := by cases k <;> rfl
@[simp] theorem setStack_lockState (s : State) (k : StackSlot) (r : StackRecord) : (s.setStack k r).lockState = s.lockState := by cases k <;> rfl
@[simp] theorem setStack_inFlight (s : State) (k : StackSlot) (r : StackRecord) : (s.setStack k r).inFlight = s.inFlight := by cases k <;> rfl
@[simp] theorem setStack_initialLead (s : State) (k : StackSlot) (r : StackRecord) : (s.setStack k r).initialLead = s.initialLead := by cases k <;> rfl
@[simp] theorem setStack_engine (s : State) (k : StackSlot) (r : StackRecord) : (s.setStack k r).engine = s.engine := by cases k <;> rfl
@[simp] theorem setStack_last (s : State) (k : StackSlot) (r : StackRecord) : (s.setStack k r).last = s.last := by cases k <;> rfl
@[simp] theorem setStack_flags (s : State) (k : StackSlot) (r : StackRecord) : (s.setStack k r).flags = s.flags := by cases k <;> rfl
@[simp] theorem setStack_enables (s : State) (k : StackSlot) (r : StackRecord) : (s.setStack k r).enables = s.enables := by cases k <;> rfl
@[simp] theorem setStack_attn (s : State) (k : StackSlot) (r : StackRecord) : (s.setStack k r).attn = s.attn := by cases k <;> rfl
@[simp] theorem setStack_counters (s : State) (k : StackSlot) (r : StackRecord) : (s.setStack k r).counters = s.counters := by cases k <;> rfl
@[simp] theorem setStack_rewriteCount (s : State) (k : StackSlot) (r : StackRecord) : (s.setStack k r).rewriteCount = s.rewriteCount := by cases k <;> rfl
@[simp] theorem setStack_rewrite (s : State) (k : StackSlot) (r : StackRecord) : (s.setStack k r).rewrite = s.rewrite := by cases k <;> rfl
@[simp] theorem setStack_mark (s : State) (k : StackSlot) (r : StackRecord) : (s.setStack k r).mark = s.mark := by cases k <;> rfl
@[simp] theorem setStack_requested (s : State) (k : StackSlot) (r : StackRecord) : (s.setStack k r).requested = s.requested := by cases k <;> rfl
@[simp] theorem setStack_retirements (s : State) (k : StackSlot) (r : StackRecord) : (s.setStack k r).retirements = s.retirements := by cases k <;> rfl
@[simp] theorem setStack_answers (s : State) (k : StackSlot) (r : StackRecord) : (s.setStack k r).answers = s.answers := by cases k <;> rfl
@[simp] theorem setStack_nextSlot (s : State) (k : StackSlot) (r : StackRecord) : (s.setStack k r).nextSlot = s.nextSlot := by cases k <;> rfl
@[simp] theorem setStack_nextEntry (s : State) (k : StackSlot) (r : StackRecord) : (s.setStack k r).nextEntry = s.nextEntry := by cases k <;> rfl
@[simp] theorem setStack_pending (s : State) (k : StackSlot) (r : StackRecord) : (s.setStack k r).pending = s.pending := by cases k <;> rfl

/-! `State.endRewrite` -/

@[simp] theorem endRewrite_resetAsserted (s : State) : s.endRewrite.resetAsserted = s.resetAsserted := by unfold State.endRewrite; split <;> rfl
@[simp] theorem endRewrite_base (s : State) : s.endRewrite.base = s.base := by unfold State.endRewrite; split <;> rfl
@[simp] theorem endRewrite_level (s : State) : s.endRewrite.level = s.level := by unfold State.endRewrite; split <;> rfl
@[simp] theorem endRewrite_current (s : State) : s.endRewrite.current = s.current := by unfold State.endRewrite; split <;> rfl
@[simp] theorem endRewrite_lock (s : State) : s.endRewrite.lock = s.lock := by unfold State.endRewrite; split <;> rfl
@[simp] theorem endRewrite_segs (s : State) : s.endRewrite.segs = s.segs := by unfold State.endRewrite; split <;> rfl
@[simp] theorem endRewrite_progress (s : State) : s.endRewrite.progress = s.progress := by unfold State.endRewrite; split <;> rfl
@[simp] theorem endRewrite_queue (s : State) : s.endRewrite.queue = s.queue := by unfold State.endRewrite; split <;> rfl
@[simp] theorem endRewrite_retired (s : State) : s.endRewrite.retired = s.retired := by unfold State.endRewrite; split <;> rfl
@[simp] theorem endRewrite_intake (s : State) : s.endRewrite.intake = s.intake := by unfold State.endRewrite; split <;> rfl
@[simp] theorem endRewrite_entries (s : State) : s.endRewrite.entries = s.entries := by unfold State.endRewrite; split <;> rfl
@[simp] theorem endRewrite_placePresented (s : State) : s.endRewrite.placePresented = s.placePresented := by unfold State.endRewrite; split <;> rfl
@[simp] theorem endRewrite_stack0 (s : State) : s.endRewrite.stack0 = s.stack0 := by unfold State.endRewrite; split <;> rfl
@[simp] theorem endRewrite_stack1 (s : State) : s.endRewrite.stack1 = s.stack1 := by unfold State.endRewrite; split <;> rfl
@[simp] theorem endRewrite_sweep (s : State) : s.endRewrite.sweep = s.sweep := by unfold State.endRewrite; split <;> rfl
@[simp] theorem endRewrite_watch (s : State) : s.endRewrite.watch = s.watch := by unfold State.endRewrite; split <;> rfl
@[simp] theorem endRewrite_turn (s : State) : s.endRewrite.turn = s.turn := by unfold State.endRewrite; split <;> rfl
@[simp] theorem endRewrite_sweepWait (s : State) : s.endRewrite.sweepWait = s.sweepWait := by unfold State.endRewrite; split <;> rfl
@[simp] theorem endRewrite_lockState (s : State) : s.endRewrite.lockState = s.lockState := by unfold State.endRewrite; split <;> rfl
@[simp] theorem endRewrite_inFlight (s : State) : s.endRewrite.inFlight = s.inFlight := by unfold State.endRewrite; split <;> rfl
@[simp] theorem endRewrite_initialLead (s : State) : s.endRewrite.initialLead = s.initialLead := by unfold State.endRewrite; split <;> rfl
@[simp] theorem endRewrite_engine (s : State) : s.endRewrite.engine = s.engine := by unfold State.endRewrite; split <;> rfl
@[simp] theorem endRewrite_last (s : State) : s.endRewrite.last = s.last := by unfold State.endRewrite; split <;> rfl
@[simp] theorem endRewrite_flags (s : State) : s.endRewrite.flags = s.flags := by unfold State.endRewrite; split <;> rfl
@[simp] theorem endRewrite_enables (s : State) : s.endRewrite.enables = s.enables := by unfold State.endRewrite; split <;> rfl
@[simp] theorem endRewrite_attn (s : State) : s.endRewrite.attn = s.attn := by unfold State.endRewrite; split <;> rfl
@[simp] theorem endRewrite_counters (s : State) : s.endRewrite.counters = s.counters := by unfold State.endRewrite; split <;> rfl
@[simp] theorem endRewrite_requested (s : State) : s.endRewrite.requested = s.requested := by unfold State.endRewrite; split <;> rfl
@[simp] theorem endRewrite_retirements (s : State) : s.endRewrite.retirements = s.retirements := by unfold State.endRewrite; split <;> rfl
@[simp] theorem endRewrite_answers (s : State) : s.endRewrite.answers = s.answers := by unfold State.endRewrite; split <;> rfl
@[simp] theorem endRewrite_nextSlot (s : State) : s.endRewrite.nextSlot = s.nextSlot := by unfold State.endRewrite; split <;> rfl
@[simp] theorem endRewrite_nextEntry (s : State) : s.endRewrite.nextEntry = s.nextEntry := by unfold State.endRewrite; split <;> rfl
@[simp] theorem endRewrite_pending (s : State) : s.endRewrite.pending = s.pending := by unfold State.endRewrite; split <;> rfl

/-! `State.takeRequest` -/

@[simp] theorem takeRequest_resetAsserted (s : State) : s.takeRequest.resetAsserted = s.resetAsserted := by unfold State.takeRequest; split <;> rfl
@[simp] theorem takeRequest_base (s : State) : s.takeRequest.base = s.base := by unfold State.takeRequest; split <;> rfl
@[simp] theorem takeRequest_level (s : State) : s.takeRequest.level = s.level := by unfold State.takeRequest; split <;> rfl
@[simp] theorem takeRequest_current (s : State) : s.takeRequest.current = s.current := by unfold State.takeRequest; split <;> rfl
@[simp] theorem takeRequest_lock (s : State) : s.takeRequest.lock = s.lock := by unfold State.takeRequest; split <;> rfl
@[simp] theorem takeRequest_segs (s : State) : s.takeRequest.segs = s.segs := by unfold State.takeRequest; split <;> rfl
@[simp] theorem takeRequest_progress (s : State) : s.takeRequest.progress = s.progress := by unfold State.takeRequest; split <;> rfl
@[simp] theorem takeRequest_queue (s : State) : s.takeRequest.queue = s.queue := by unfold State.takeRequest; split <;> rfl
@[simp] theorem takeRequest_retired (s : State) : s.takeRequest.retired = s.retired := by unfold State.takeRequest; split <;> rfl
@[simp] theorem takeRequest_intake (s : State) : s.takeRequest.intake = s.intake := by unfold State.takeRequest; split <;> rfl
@[simp] theorem takeRequest_entries (s : State) : s.takeRequest.entries = s.entries := by unfold State.takeRequest; split <;> rfl
@[simp] theorem takeRequest_placePresented (s : State) : s.takeRequest.placePresented = s.placePresented := by unfold State.takeRequest; split <;> rfl
@[simp] theorem takeRequest_stack0 (s : State) : s.takeRequest.stack0 = s.stack0 := by unfold State.takeRequest; split <;> rfl
@[simp] theorem takeRequest_stack1 (s : State) : s.takeRequest.stack1 = s.stack1 := by unfold State.takeRequest; split <;> rfl
@[simp] theorem takeRequest_sweep (s : State) : s.takeRequest.sweep = s.sweep := by unfold State.takeRequest; split <;> rfl
@[simp] theorem takeRequest_watch (s : State) : s.takeRequest.watch = s.watch := by unfold State.takeRequest; split <;> rfl
@[simp] theorem takeRequest_turn (s : State) : s.takeRequest.turn = s.turn := by unfold State.takeRequest; split <;> rfl
@[simp] theorem takeRequest_sweepWait (s : State) : s.takeRequest.sweepWait = s.sweepWait := by unfold State.takeRequest; split <;> rfl
@[simp] theorem takeRequest_lockState (s : State) : s.takeRequest.lockState = s.lockState := by unfold State.takeRequest; split <;> rfl
@[simp] theorem takeRequest_inFlight (s : State) : s.takeRequest.inFlight = s.inFlight := by unfold State.takeRequest; split <;> rfl
@[simp] theorem takeRequest_initialLead (s : State) : s.takeRequest.initialLead = s.initialLead := by unfold State.takeRequest; split <;> rfl
@[simp] theorem takeRequest_engine (s : State) : s.takeRequest.engine = s.engine := by unfold State.takeRequest; split <;> rfl
@[simp] theorem takeRequest_last (s : State) : s.takeRequest.last = s.last := by unfold State.takeRequest; split <;> rfl
@[simp] theorem takeRequest_flags (s : State) : s.takeRequest.flags = s.flags := by unfold State.takeRequest; split <;> rfl
@[simp] theorem takeRequest_enables (s : State) : s.takeRequest.enables = s.enables := by unfold State.takeRequest; split <;> rfl
@[simp] theorem takeRequest_attn (s : State) : s.takeRequest.attn = s.attn := by unfold State.takeRequest; split <;> rfl
@[simp] theorem takeRequest_counters (s : State) : s.takeRequest.counters = s.counters := by unfold State.takeRequest; split <;> rfl
@[simp] theorem takeRequest_requested (s : State) : s.takeRequest.requested = s.requested := by unfold State.takeRequest; split <;> rfl
@[simp] theorem takeRequest_retirements (s : State) : s.takeRequest.retirements = s.retirements := by unfold State.takeRequest; split <;> rfl
@[simp] theorem takeRequest_answers (s : State) : s.takeRequest.answers = s.answers := by unfold State.takeRequest; split <;> rfl
@[simp] theorem takeRequest_nextSlot (s : State) : s.takeRequest.nextSlot = s.nextSlot := by unfold State.takeRequest; split <;> rfl
@[simp] theorem takeRequest_nextEntry (s : State) : s.takeRequest.nextEntry = s.nextEntry := by unfold State.takeRequest; split <;> rfl
@[simp] theorem takeRequest_pending (s : State) : s.takeRequest.pending = s.pending := by unfold State.takeRequest; split <;> rfl

/-! `State.takeRequests` -/

@[simp] theorem takeRequests_resetAsserted (s : State) (n : Nat) : (State.takeRequests n s).resetAsserted = s.resetAsserted := by induction n generalizing s with | zero => rfl | succ n ih => simp [State.takeRequests, ih]
@[simp] theorem takeRequests_base (s : State) (n : Nat) : (State.takeRequests n s).base = s.base := by induction n generalizing s with | zero => rfl | succ n ih => simp [State.takeRequests, ih]
@[simp] theorem takeRequests_level (s : State) (n : Nat) : (State.takeRequests n s).level = s.level := by induction n generalizing s with | zero => rfl | succ n ih => simp [State.takeRequests, ih]
@[simp] theorem takeRequests_current (s : State) (n : Nat) : (State.takeRequests n s).current = s.current := by induction n generalizing s with | zero => rfl | succ n ih => simp [State.takeRequests, ih]
@[simp] theorem takeRequests_lock (s : State) (n : Nat) : (State.takeRequests n s).lock = s.lock := by induction n generalizing s with | zero => rfl | succ n ih => simp [State.takeRequests, ih]
@[simp] theorem takeRequests_segs (s : State) (n : Nat) : (State.takeRequests n s).segs = s.segs := by induction n generalizing s with | zero => rfl | succ n ih => simp [State.takeRequests, ih]
@[simp] theorem takeRequests_progress (s : State) (n : Nat) : (State.takeRequests n s).progress = s.progress := by induction n generalizing s with | zero => rfl | succ n ih => simp [State.takeRequests, ih]
@[simp] theorem takeRequests_queue (s : State) (n : Nat) : (State.takeRequests n s).queue = s.queue := by induction n generalizing s with | zero => rfl | succ n ih => simp [State.takeRequests, ih]
@[simp] theorem takeRequests_retired (s : State) (n : Nat) : (State.takeRequests n s).retired = s.retired := by induction n generalizing s with | zero => rfl | succ n ih => simp [State.takeRequests, ih]
@[simp] theorem takeRequests_intake (s : State) (n : Nat) : (State.takeRequests n s).intake = s.intake := by induction n generalizing s with | zero => rfl | succ n ih => simp [State.takeRequests, ih]
@[simp] theorem takeRequests_entries (s : State) (n : Nat) : (State.takeRequests n s).entries = s.entries := by induction n generalizing s with | zero => rfl | succ n ih => simp [State.takeRequests, ih]
@[simp] theorem takeRequests_placePresented (s : State) (n : Nat) : (State.takeRequests n s).placePresented = s.placePresented := by induction n generalizing s with | zero => rfl | succ n ih => simp [State.takeRequests, ih]
@[simp] theorem takeRequests_stack0 (s : State) (n : Nat) : (State.takeRequests n s).stack0 = s.stack0 := by induction n generalizing s with | zero => rfl | succ n ih => simp [State.takeRequests, ih]
@[simp] theorem takeRequests_stack1 (s : State) (n : Nat) : (State.takeRequests n s).stack1 = s.stack1 := by induction n generalizing s with | zero => rfl | succ n ih => simp [State.takeRequests, ih]
@[simp] theorem takeRequests_sweep (s : State) (n : Nat) : (State.takeRequests n s).sweep = s.sweep := by induction n generalizing s with | zero => rfl | succ n ih => simp [State.takeRequests, ih]
@[simp] theorem takeRequests_watch (s : State) (n : Nat) : (State.takeRequests n s).watch = s.watch := by induction n generalizing s with | zero => rfl | succ n ih => simp [State.takeRequests, ih]
@[simp] theorem takeRequests_turn (s : State) (n : Nat) : (State.takeRequests n s).turn = s.turn := by induction n generalizing s with | zero => rfl | succ n ih => simp [State.takeRequests, ih]
@[simp] theorem takeRequests_sweepWait (s : State) (n : Nat) : (State.takeRequests n s).sweepWait = s.sweepWait := by induction n generalizing s with | zero => rfl | succ n ih => simp [State.takeRequests, ih]
@[simp] theorem takeRequests_lockState (s : State) (n : Nat) : (State.takeRequests n s).lockState = s.lockState := by induction n generalizing s with | zero => rfl | succ n ih => simp [State.takeRequests, ih]
@[simp] theorem takeRequests_inFlight (s : State) (n : Nat) : (State.takeRequests n s).inFlight = s.inFlight := by induction n generalizing s with | zero => rfl | succ n ih => simp [State.takeRequests, ih]
@[simp] theorem takeRequests_initialLead (s : State) (n : Nat) : (State.takeRequests n s).initialLead = s.initialLead := by induction n generalizing s with | zero => rfl | succ n ih => simp [State.takeRequests, ih]
@[simp] theorem takeRequests_engine (s : State) (n : Nat) : (State.takeRequests n s).engine = s.engine := by induction n generalizing s with | zero => rfl | succ n ih => simp [State.takeRequests, ih]
@[simp] theorem takeRequests_last (s : State) (n : Nat) : (State.takeRequests n s).last = s.last := by induction n generalizing s with | zero => rfl | succ n ih => simp [State.takeRequests, ih]
@[simp] theorem takeRequests_flags (s : State) (n : Nat) : (State.takeRequests n s).flags = s.flags := by induction n generalizing s with | zero => rfl | succ n ih => simp [State.takeRequests, ih]
@[simp] theorem takeRequests_enables (s : State) (n : Nat) : (State.takeRequests n s).enables = s.enables := by induction n generalizing s with | zero => rfl | succ n ih => simp [State.takeRequests, ih]
@[simp] theorem takeRequests_attn (s : State) (n : Nat) : (State.takeRequests n s).attn = s.attn := by induction n generalizing s with | zero => rfl | succ n ih => simp [State.takeRequests, ih]
@[simp] theorem takeRequests_counters (s : State) (n : Nat) : (State.takeRequests n s).counters = s.counters := by induction n generalizing s with | zero => rfl | succ n ih => simp [State.takeRequests, ih]
@[simp] theorem takeRequests_requested (s : State) (n : Nat) : (State.takeRequests n s).requested = s.requested := by induction n generalizing s with | zero => rfl | succ n ih => simp [State.takeRequests, ih]
@[simp] theorem takeRequests_retirements (s : State) (n : Nat) : (State.takeRequests n s).retirements = s.retirements := by induction n generalizing s with | zero => rfl | succ n ih => simp [State.takeRequests, ih]
@[simp] theorem takeRequests_answers (s : State) (n : Nat) : (State.takeRequests n s).answers = s.answers := by induction n generalizing s with | zero => rfl | succ n ih => simp [State.takeRequests, ih]
@[simp] theorem takeRequests_nextSlot (s : State) (n : Nat) : (State.takeRequests n s).nextSlot = s.nextSlot := by induction n generalizing s with | zero => rfl | succ n ih => simp [State.takeRequests, ih]
@[simp] theorem takeRequests_nextEntry (s : State) (n : Nat) : (State.takeRequests n s).nextEntry = s.nextEntry := by induction n generalizing s with | zero => rfl | succ n ih => simp [State.takeRequests, ih]
@[simp] theorem takeRequests_pending (s : State) (n : Nat) : (State.takeRequests n s).pending = s.pending := by induction n generalizing s with | zero => rfl | succ n ih => simp [State.takeRequests, ih]

/-! `State.settleRequests` -/

@[simp] theorem settleRequests_resetAsserted (s : State) : s.settleRequests.resetAsserted = s.resetAsserted := by simp [State.settleRequests]
@[simp] theorem settleRequests_base (s : State) : s.settleRequests.base = s.base := by simp [State.settleRequests]
@[simp] theorem settleRequests_level (s : State) : s.settleRequests.level = s.level := by simp [State.settleRequests]
@[simp] theorem settleRequests_current (s : State) : s.settleRequests.current = s.current := by simp [State.settleRequests]
@[simp] theorem settleRequests_lock (s : State) : s.settleRequests.lock = s.lock := by simp [State.settleRequests]
@[simp] theorem settleRequests_segs (s : State) : s.settleRequests.segs = s.segs := by simp [State.settleRequests]
@[simp] theorem settleRequests_progress (s : State) : s.settleRequests.progress = s.progress := by simp [State.settleRequests]
@[simp] theorem settleRequests_queue (s : State) : s.settleRequests.queue = s.queue := by simp [State.settleRequests]
@[simp] theorem settleRequests_retired (s : State) : s.settleRequests.retired = s.retired := by simp [State.settleRequests]
@[simp] theorem settleRequests_intake (s : State) : s.settleRequests.intake = s.intake := by simp [State.settleRequests]
@[simp] theorem settleRequests_entries (s : State) : s.settleRequests.entries = s.entries := by simp [State.settleRequests]
@[simp] theorem settleRequests_placePresented (s : State) : s.settleRequests.placePresented = s.placePresented := by simp [State.settleRequests]
@[simp] theorem settleRequests_stack0 (s : State) : s.settleRequests.stack0 = s.stack0 := by simp [State.settleRequests]
@[simp] theorem settleRequests_stack1 (s : State) : s.settleRequests.stack1 = s.stack1 := by simp [State.settleRequests]
@[simp] theorem settleRequests_sweep (s : State) : s.settleRequests.sweep = s.sweep := by simp [State.settleRequests]
@[simp] theorem settleRequests_watch (s : State) : s.settleRequests.watch = s.watch := by simp [State.settleRequests]
@[simp] theorem settleRequests_turn (s : State) : s.settleRequests.turn = s.turn := by simp [State.settleRequests]
@[simp] theorem settleRequests_sweepWait (s : State) : s.settleRequests.sweepWait = s.sweepWait := by simp [State.settleRequests]
@[simp] theorem settleRequests_lockState (s : State) : s.settleRequests.lockState = s.lockState := by simp [State.settleRequests]
@[simp] theorem settleRequests_inFlight (s : State) : s.settleRequests.inFlight = s.inFlight := by simp [State.settleRequests]
@[simp] theorem settleRequests_initialLead (s : State) : s.settleRequests.initialLead = s.initialLead := by simp [State.settleRequests]
@[simp] theorem settleRequests_engine (s : State) : s.settleRequests.engine = s.engine := by simp [State.settleRequests]
@[simp] theorem settleRequests_last (s : State) : s.settleRequests.last = s.last := by simp [State.settleRequests]
@[simp] theorem settleRequests_flags (s : State) : s.settleRequests.flags = s.flags := by simp [State.settleRequests]
@[simp] theorem settleRequests_enables (s : State) : s.settleRequests.enables = s.enables := by simp [State.settleRequests]
@[simp] theorem settleRequests_attn (s : State) : s.settleRequests.attn = s.attn := by simp [State.settleRequests]
@[simp] theorem settleRequests_counters (s : State) : s.settleRequests.counters = s.counters := by simp [State.settleRequests]
@[simp] theorem settleRequests_answers (s : State) : s.settleRequests.answers = s.answers := by simp [State.settleRequests]
@[simp] theorem settleRequests_nextSlot (s : State) : s.settleRequests.nextSlot = s.nextSlot := by simp [State.settleRequests]
@[simp] theorem settleRequests_nextEntry (s : State) : s.settleRequests.nextEntry = s.nextEntry := by simp [State.settleRequests]
@[simp] theorem settleRequests_pending (s : State) : s.settleRequests.pending = s.pending := by simp [State.settleRequests]

/-! `State.memoryFault` -/

@[simp] theorem memoryFault_resetAsserted (s : State) : s.memoryFault.resetAsserted = s.resetAsserted := by simp [State.memoryFault]
@[simp] theorem memoryFault_base (s : State) : s.memoryFault.base = s.base := by simp [State.memoryFault]
@[simp] theorem memoryFault_level (s : State) : s.memoryFault.level = s.level := by simp [State.memoryFault]
@[simp] theorem memoryFault_current (s : State) : s.memoryFault.current = s.current := by simp [State.memoryFault]
@[simp] theorem memoryFault_lock (s : State) : s.memoryFault.lock = s.lock := by simp [State.memoryFault]
@[simp] theorem memoryFault_segs (s : State) : s.memoryFault.segs = s.segs := by simp [State.memoryFault]
@[simp] theorem memoryFault_progress (s : State) : s.memoryFault.progress = s.progress := by simp [State.memoryFault]
@[simp] theorem memoryFault_queue (s : State) : s.memoryFault.queue = s.queue := by simp [State.memoryFault]
@[simp] theorem memoryFault_retired (s : State) : s.memoryFault.retired = s.retired := by simp [State.memoryFault]
@[simp] theorem memoryFault_intake (s : State) : s.memoryFault.intake = s.intake := by simp [State.memoryFault]
@[simp] theorem memoryFault_entries (s : State) : s.memoryFault.entries = s.entries := by simp [State.memoryFault]
@[simp] theorem memoryFault_placePresented (s : State) : s.memoryFault.placePresented = s.placePresented := by simp [State.memoryFault]
@[simp] theorem memoryFault_stack0 (s : State) : s.memoryFault.stack0 = s.stack0 := by simp [State.memoryFault]
@[simp] theorem memoryFault_stack1 (s : State) : s.memoryFault.stack1 = s.stack1 := by simp [State.memoryFault]
@[simp] theorem memoryFault_sweep (s : State) : s.memoryFault.sweep = s.sweep := by simp [State.memoryFault]
@[simp] theorem memoryFault_watch (s : State) : s.memoryFault.watch = s.watch := by simp [State.memoryFault]
@[simp] theorem memoryFault_turn (s : State) : s.memoryFault.turn = s.turn := by simp [State.memoryFault]
@[simp] theorem memoryFault_sweepWait (s : State) : s.memoryFault.sweepWait = s.sweepWait := by simp [State.memoryFault]
@[simp] theorem memoryFault_lockState (s : State) : s.memoryFault.lockState = s.lockState := by simp [State.memoryFault]
@[simp] theorem memoryFault_inFlight (s : State) : s.memoryFault.inFlight = s.inFlight := by simp [State.memoryFault]
@[simp] theorem memoryFault_initialLead (s : State) : s.memoryFault.initialLead = s.initialLead := by simp [State.memoryFault]
@[simp] theorem memoryFault_engine (s : State) : s.memoryFault.engine = s.engine := by simp [State.memoryFault]
@[simp] theorem memoryFault_last (s : State) : s.memoryFault.last = s.last := by simp [State.memoryFault]
@[simp] theorem memoryFault_enables (s : State) : s.memoryFault.enables = s.enables := by simp [State.memoryFault]
@[simp] theorem memoryFault_rewriteCount (s : State) : s.memoryFault.rewriteCount = s.rewriteCount := by simp [State.memoryFault]
@[simp] theorem memoryFault_rewrite (s : State) : s.memoryFault.rewrite = s.rewrite := by simp [State.memoryFault]
@[simp] theorem memoryFault_mark (s : State) : s.memoryFault.mark = s.mark := by simp [State.memoryFault]
@[simp] theorem memoryFault_retirements (s : State) : s.memoryFault.retirements = s.retirements := by simp [State.memoryFault]
@[simp] theorem memoryFault_answers (s : State) : s.memoryFault.answers = s.answers := by simp [State.memoryFault]
@[simp] theorem memoryFault_nextSlot (s : State) : s.memoryFault.nextSlot = s.nextSlot := by simp [State.memoryFault]
@[simp] theorem memoryFault_nextEntry (s : State) : s.memoryFault.nextEntry = s.nextEntry := by simp [State.memoryFault]
@[simp] theorem memoryFault_pending (s : State) : s.memoryFault.pending = s.pending := by simp [State.memoryFault]

/-! `State.endCommand` -/

@[simp] theorem endCommand_resetAsserted (s : State) (c g : BitVec 8) (r : ResultCode) (d : Nat) : (s.endCommand c g r d).resetAsserted = s.resetAsserted := by simp [State.endCommand]
@[simp] theorem endCommand_base (s : State) (c g : BitVec 8) (r : ResultCode) (d : Nat) : (s.endCommand c g r d).base = s.base := by simp [State.endCommand]
@[simp] theorem endCommand_level (s : State) (c g : BitVec 8) (r : ResultCode) (d : Nat) : (s.endCommand c g r d).level = s.level := by simp [State.endCommand]
@[simp] theorem endCommand_current (s : State) (c g : BitVec 8) (r : ResultCode) (d : Nat) : (s.endCommand c g r d).current = s.current := by simp [State.endCommand]
@[simp] theorem endCommand_lock (s : State) (c g : BitVec 8) (r : ResultCode) (d : Nat) : (s.endCommand c g r d).lock = s.lock := by simp [State.endCommand]
@[simp] theorem endCommand_segs (s : State) (c g : BitVec 8) (r : ResultCode) (d : Nat) : (s.endCommand c g r d).segs = s.segs := by simp [State.endCommand]
@[simp] theorem endCommand_progress (s : State) (c g : BitVec 8) (r : ResultCode) (d : Nat) : (s.endCommand c g r d).progress = s.progress := by simp [State.endCommand]
@[simp] theorem endCommand_queue (s : State) (c g : BitVec 8) (r : ResultCode) (d : Nat) : (s.endCommand c g r d).queue = s.queue := by simp [State.endCommand]
@[simp] theorem endCommand_retired (s : State) (c g : BitVec 8) (r : ResultCode) (d : Nat) : (s.endCommand c g r d).retired = s.retired := by simp [State.endCommand]
@[simp] theorem endCommand_intake (s : State) (c g : BitVec 8) (r : ResultCode) (d : Nat) : (s.endCommand c g r d).intake = s.intake := by simp [State.endCommand]
@[simp] theorem endCommand_entries (s : State) (c g : BitVec 8) (r : ResultCode) (d : Nat) : (s.endCommand c g r d).entries = s.entries := by simp [State.endCommand]
@[simp] theorem endCommand_placePresented (s : State) (c g : BitVec 8) (r : ResultCode) (d : Nat) : (s.endCommand c g r d).placePresented = s.placePresented := by simp [State.endCommand]
@[simp] theorem endCommand_stack0 (s : State) (c g : BitVec 8) (r : ResultCode) (d : Nat) : (s.endCommand c g r d).stack0 = s.stack0 := by simp [State.endCommand]
@[simp] theorem endCommand_stack1 (s : State) (c g : BitVec 8) (r : ResultCode) (d : Nat) : (s.endCommand c g r d).stack1 = s.stack1 := by simp [State.endCommand]
@[simp] theorem endCommand_sweep (s : State) (c g : BitVec 8) (r : ResultCode) (d : Nat) : (s.endCommand c g r d).sweep = s.sweep := by simp [State.endCommand]
@[simp] theorem endCommand_watch (s : State) (c g : BitVec 8) (r : ResultCode) (d : Nat) : (s.endCommand c g r d).watch = s.watch := by simp [State.endCommand]
@[simp] theorem endCommand_turn (s : State) (c g : BitVec 8) (r : ResultCode) (d : Nat) : (s.endCommand c g r d).turn = s.turn := by simp [State.endCommand]
@[simp] theorem endCommand_sweepWait (s : State) (c g : BitVec 8) (r : ResultCode) (d : Nat) : (s.endCommand c g r d).sweepWait = s.sweepWait := by simp [State.endCommand]
@[simp] theorem endCommand_lockState (s : State) (c g : BitVec 8) (r : ResultCode) (d : Nat) : (s.endCommand c g r d).lockState = s.lockState := by simp [State.endCommand]
@[simp] theorem endCommand_inFlight (s : State) (c g : BitVec 8) (r : ResultCode) (d : Nat) : (s.endCommand c g r d).inFlight = s.inFlight := by simp [State.endCommand]
@[simp] theorem endCommand_initialLead (s : State) (c g : BitVec 8) (r : ResultCode) (d : Nat) : (s.endCommand c g r d).initialLead = s.initialLead := by simp [State.endCommand]
@[simp] theorem endCommand_enables (s : State) (c g : BitVec 8) (r : ResultCode) (d : Nat) : (s.endCommand c g r d).enables = s.enables := by simp [State.endCommand]
@[simp] theorem endCommand_counters (s : State) (c g : BitVec 8) (r : ResultCode) (d : Nat) : (s.endCommand c g r d).counters = s.counters := by simp [State.endCommand]
@[simp] theorem endCommand_rewriteCount (s : State) (c g : BitVec 8) (r : ResultCode) (d : Nat) : (s.endCommand c g r d).rewriteCount = s.rewriteCount := by simp [State.endCommand]
@[simp] theorem endCommand_rewrite (s : State) (c g : BitVec 8) (r : ResultCode) (d : Nat) : (s.endCommand c g r d).rewrite = s.rewrite := by simp [State.endCommand]
@[simp] theorem endCommand_mark (s : State) (c g : BitVec 8) (r : ResultCode) (d : Nat) : (s.endCommand c g r d).mark = s.mark := by simp [State.endCommand]
@[simp] theorem endCommand_retirements (s : State) (c g : BitVec 8) (r : ResultCode) (d : Nat) : (s.endCommand c g r d).retirements = s.retirements := by simp [State.endCommand]
@[simp] theorem endCommand_answers (s : State) (c g : BitVec 8) (r : ResultCode) (d : Nat) : (s.endCommand c g r d).answers = s.answers := by simp [State.endCommand]
@[simp] theorem endCommand_nextSlot (s : State) (c g : BitVec 8) (r : ResultCode) (d : Nat) : (s.endCommand c g r d).nextSlot = s.nextSlot := by simp [State.endCommand]
@[simp] theorem endCommand_nextEntry (s : State) (c g : BitVec 8) (r : ResultCode) (d : Nat) : (s.endCommand c g r d).nextEntry = s.nextEntry := by simp [State.endCommand]
@[simp] theorem endCommand_pending (s : State) (c g : BitVec 8) (r : ResultCode) (d : Nat) : (s.endCommand c g r d).pending = s.pending := by simp [State.endCommand]

/-! `State.finish` -/

@[simp] theorem finish_resetAsserted (s : State) (c : CurrentCommand) (r : ResultCode) (d : Nat) : (s.finish c r d).resetAsserted = s.resetAsserted := by simp [State.finish]
@[simp] theorem finish_base (s : State) (c : CurrentCommand) (r : ResultCode) (d : Nat) : (s.finish c r d).base = s.base := by simp [State.finish]
@[simp] theorem finish_level (s : State) (c : CurrentCommand) (r : ResultCode) (d : Nat) : (s.finish c r d).level = s.level := by simp [State.finish]
@[simp] theorem finish_current (s : State) (c : CurrentCommand) (r : ResultCode) (d : Nat) : (s.finish c r d).current = s.current := by simp [State.finish]
@[simp] theorem finish_lock (s : State) (c : CurrentCommand) (r : ResultCode) (d : Nat) : (s.finish c r d).lock = s.lock := by simp [State.finish]
@[simp] theorem finish_segs (s : State) (c : CurrentCommand) (r : ResultCode) (d : Nat) : (s.finish c r d).segs = s.segs := by simp [State.finish]
@[simp] theorem finish_progress (s : State) (c : CurrentCommand) (r : ResultCode) (d : Nat) : (s.finish c r d).progress = s.progress := by simp [State.finish]
@[simp] theorem finish_queue (s : State) (c : CurrentCommand) (r : ResultCode) (d : Nat) : (s.finish c r d).queue = s.queue := by simp [State.finish]
@[simp] theorem finish_retired (s : State) (c : CurrentCommand) (r : ResultCode) (d : Nat) : (s.finish c r d).retired = s.retired := by simp [State.finish]
@[simp] theorem finish_intake (s : State) (c : CurrentCommand) (r : ResultCode) (d : Nat) : (s.finish c r d).intake = s.intake := by simp [State.finish]
@[simp] theorem finish_entries (s : State) (c : CurrentCommand) (r : ResultCode) (d : Nat) : (s.finish c r d).entries = s.entries := by simp [State.finish]
@[simp] theorem finish_placePresented (s : State) (c : CurrentCommand) (r : ResultCode) (d : Nat) : (s.finish c r d).placePresented = s.placePresented := by simp [State.finish]
@[simp] theorem finish_stack0 (s : State) (c : CurrentCommand) (r : ResultCode) (d : Nat) : (s.finish c r d).stack0 = s.stack0 := by simp [State.finish]
@[simp] theorem finish_stack1 (s : State) (c : CurrentCommand) (r : ResultCode) (d : Nat) : (s.finish c r d).stack1 = s.stack1 := by simp [State.finish]
@[simp] theorem finish_sweep (s : State) (c : CurrentCommand) (r : ResultCode) (d : Nat) : (s.finish c r d).sweep = s.sweep := by simp [State.finish]
@[simp] theorem finish_watch (s : State) (c : CurrentCommand) (r : ResultCode) (d : Nat) : (s.finish c r d).watch = s.watch := by simp [State.finish]
@[simp] theorem finish_turn (s : State) (c : CurrentCommand) (r : ResultCode) (d : Nat) : (s.finish c r d).turn = s.turn := by simp [State.finish]
@[simp] theorem finish_sweepWait (s : State) (c : CurrentCommand) (r : ResultCode) (d : Nat) : (s.finish c r d).sweepWait = s.sweepWait := by simp [State.finish]
@[simp] theorem finish_lockState (s : State) (c : CurrentCommand) (r : ResultCode) (d : Nat) : (s.finish c r d).lockState = s.lockState := by simp [State.finish]
@[simp] theorem finish_inFlight (s : State) (c : CurrentCommand) (r : ResultCode) (d : Nat) : (s.finish c r d).inFlight = s.inFlight := by simp [State.finish]
@[simp] theorem finish_initialLead (s : State) (c : CurrentCommand) (r : ResultCode) (d : Nat) : (s.finish c r d).initialLead = s.initialLead := by simp [State.finish]
@[simp] theorem finish_enables (s : State) (c : CurrentCommand) (r : ResultCode) (d : Nat) : (s.finish c r d).enables = s.enables := by simp [State.finish]
@[simp] theorem finish_counters (s : State) (c : CurrentCommand) (r : ResultCode) (d : Nat) : (s.finish c r d).counters = s.counters := by simp [State.finish]
@[simp] theorem finish_rewriteCount (s : State) (c : CurrentCommand) (r : ResultCode) (d : Nat) : (s.finish c r d).rewriteCount = s.rewriteCount := by simp [State.finish]
@[simp] theorem finish_rewrite (s : State) (c : CurrentCommand) (r : ResultCode) (d : Nat) : (s.finish c r d).rewrite = s.rewrite := by simp [State.finish]
@[simp] theorem finish_mark (s : State) (c : CurrentCommand) (r : ResultCode) (d : Nat) : (s.finish c r d).mark = s.mark := by simp [State.finish]
@[simp] theorem finish_retirements (s : State) (c : CurrentCommand) (r : ResultCode) (d : Nat) : (s.finish c r d).retirements = s.retirements := by simp [State.finish]
@[simp] theorem finish_answers (s : State) (c : CurrentCommand) (r : ResultCode) (d : Nat) : (s.finish c r d).answers = s.answers := by simp [State.finish]
@[simp] theorem finish_nextSlot (s : State) (c : CurrentCommand) (r : ResultCode) (d : Nat) : (s.finish c r d).nextSlot = s.nextSlot := by simp [State.finish]
@[simp] theorem finish_nextEntry (s : State) (c : CurrentCommand) (r : ResultCode) (d : Nat) : (s.finish c r d).nextEntry = s.nextEntry := by simp [State.finish]
@[simp] theorem finish_pending (s : State) (c : CurrentCommand) (r : ResultCode) (d : Nat) : (s.finish c r d).pending = s.pending := by simp [State.finish]

/-! `State.presentWrite` -/

@[simp] theorem presentWrite_resetAsserted (s : State) : s.presentWrite.resetAsserted = s.resetAsserted := by unfold State.presentWrite; split <;> (try split) <;> rfl
@[simp] theorem presentWrite_base (s : State) : s.presentWrite.base = s.base := by unfold State.presentWrite; split <;> (try split) <;> rfl
@[simp] theorem presentWrite_level (s : State) : s.presentWrite.level = s.level := by unfold State.presentWrite; split <;> (try split) <;> rfl
@[simp] theorem presentWrite_current (s : State) : s.presentWrite.current = s.current := by unfold State.presentWrite; split <;> (try split) <;> rfl
@[simp] theorem presentWrite_lock (s : State) : s.presentWrite.lock = s.lock := by unfold State.presentWrite; split <;> (try split) <;> rfl
@[simp] theorem presentWrite_segs (s : State) : s.presentWrite.segs = s.segs := by unfold State.presentWrite; split <;> (try split) <;> rfl
@[simp] theorem presentWrite_progress (s : State) : s.presentWrite.progress = s.progress := by unfold State.presentWrite; split <;> (try split) <;> rfl
@[simp] theorem presentWrite_queue (s : State) : s.presentWrite.queue = s.queue := by unfold State.presentWrite; split <;> (try split) <;> rfl
@[simp] theorem presentWrite_retired (s : State) : s.presentWrite.retired = s.retired := by unfold State.presentWrite; split <;> (try split) <;> rfl
@[simp] theorem presentWrite_intake (s : State) : s.presentWrite.intake = s.intake := by unfold State.presentWrite; split <;> (try split) <;> rfl
@[simp] theorem presentWrite_entries (s : State) : s.presentWrite.entries = s.entries := by unfold State.presentWrite; split <;> (try split) <;> rfl
@[simp] theorem presentWrite_stack0 (s : State) : s.presentWrite.stack0 = s.stack0 := by unfold State.presentWrite; split <;> (try split) <;> rfl
@[simp] theorem presentWrite_stack1 (s : State) : s.presentWrite.stack1 = s.stack1 := by unfold State.presentWrite; split <;> (try split) <;> rfl
@[simp] theorem presentWrite_sweep (s : State) : s.presentWrite.sweep = s.sweep := by unfold State.presentWrite; split <;> (try split) <;> rfl
@[simp] theorem presentWrite_watch (s : State) : s.presentWrite.watch = s.watch := by unfold State.presentWrite; split <;> (try split) <;> rfl
@[simp] theorem presentWrite_turn (s : State) : s.presentWrite.turn = s.turn := by unfold State.presentWrite; split <;> (try split) <;> rfl
@[simp] theorem presentWrite_sweepWait (s : State) : s.presentWrite.sweepWait = s.sweepWait := by unfold State.presentWrite; split <;> (try split) <;> rfl
@[simp] theorem presentWrite_lockState (s : State) : s.presentWrite.lockState = s.lockState := by unfold State.presentWrite; split <;> (try split) <;> rfl
@[simp] theorem presentWrite_inFlight (s : State) : s.presentWrite.inFlight = s.inFlight := by unfold State.presentWrite; split <;> (try split) <;> rfl
@[simp] theorem presentWrite_initialLead (s : State) : s.presentWrite.initialLead = s.initialLead := by unfold State.presentWrite; split <;> (try split) <;> rfl
@[simp] theorem presentWrite_engine (s : State) : s.presentWrite.engine = s.engine := by unfold State.presentWrite; split <;> (try split) <;> rfl
@[simp] theorem presentWrite_last (s : State) : s.presentWrite.last = s.last := by unfold State.presentWrite; split <;> (try split) <;> rfl
@[simp] theorem presentWrite_flags (s : State) : s.presentWrite.flags = s.flags := by unfold State.presentWrite; split <;> (try split) <;> rfl
@[simp] theorem presentWrite_enables (s : State) : s.presentWrite.enables = s.enables := by unfold State.presentWrite; split <;> (try split) <;> rfl
@[simp] theorem presentWrite_attn (s : State) : s.presentWrite.attn = s.attn := by unfold State.presentWrite; split <;> (try split) <;> rfl
@[simp] theorem presentWrite_counters (s : State) : s.presentWrite.counters = s.counters := by unfold State.presentWrite; split <;> (try split) <;> rfl
@[simp] theorem presentWrite_rewriteCount (s : State) : s.presentWrite.rewriteCount = s.rewriteCount := by unfold State.presentWrite; split <;> (try split) <;> rfl
@[simp] theorem presentWrite_rewrite (s : State) : s.presentWrite.rewrite = s.rewrite := by unfold State.presentWrite; split <;> (try split) <;> rfl
@[simp] theorem presentWrite_mark (s : State) : s.presentWrite.mark = s.mark := by unfold State.presentWrite; split <;> (try split) <;> rfl
@[simp] theorem presentWrite_requested (s : State) : s.presentWrite.requested = s.requested := by unfold State.presentWrite; split <;> (try split) <;> rfl
@[simp] theorem presentWrite_retirements (s : State) : s.presentWrite.retirements = s.retirements := by unfold State.presentWrite; split <;> (try split) <;> rfl
@[simp] theorem presentWrite_answers (s : State) : s.presentWrite.answers = s.answers := by unfold State.presentWrite; split <;> (try split) <;> rfl
@[simp] theorem presentWrite_nextSlot (s : State) : s.presentWrite.nextSlot = s.nextSlot := by unfold State.presentWrite; split <;> (try split) <;> rfl
@[simp] theorem presentWrite_nextEntry (s : State) : s.presentWrite.nextEntry = s.nextEntry := by unfold State.presentWrite; split <;> (try split) <;> rfl
@[simp] theorem presentWrite_pending (s : State) : s.presentWrite.pending = s.pending := by unfold State.presentWrite; split <;> (try split) <;> rfl

/-! `State.takeUp` -/

@[simp] theorem takeUp_resetAsserted (s : State) (k : StackSlot) : (s.takeUp k).resetAsserted = s.resetAsserted := rfl
@[simp] theorem takeUp_base (s : State) (k : StackSlot) : (s.takeUp k).base = s.base := rfl
@[simp] theorem takeUp_level (s : State) (k : StackSlot) : (s.takeUp k).level = s.level := rfl
@[simp] theorem takeUp_current (s : State) (k : StackSlot) : (s.takeUp k).current = s.current := rfl
@[simp] theorem takeUp_lock (s : State) (k : StackSlot) : (s.takeUp k).lock = s.lock := rfl
@[simp] theorem takeUp_segs (s : State) (k : StackSlot) : (s.takeUp k).segs = s.segs := rfl
@[simp] theorem takeUp_progress (s : State) (k : StackSlot) : (s.takeUp k).progress = s.progress := rfl
@[simp] theorem takeUp_queue (s : State) (k : StackSlot) : (s.takeUp k).queue = s.queue := rfl
@[simp] theorem takeUp_retired (s : State) (k : StackSlot) : (s.takeUp k).retired = s.retired := rfl
@[simp] theorem takeUp_intake (s : State) (k : StackSlot) : (s.takeUp k).intake = s.intake := rfl
@[simp] theorem takeUp_entries (s : State) (k : StackSlot) : (s.takeUp k).entries = s.entries := rfl
@[simp] theorem takeUp_placePresented (s : State) (k : StackSlot) : (s.takeUp k).placePresented = s.placePresented := rfl
@[simp] theorem takeUp_stack0 (s : State) (k : StackSlot) : (s.takeUp k).stack0 = s.stack0 := rfl
@[simp] theorem takeUp_stack1 (s : State) (k : StackSlot) : (s.takeUp k).stack1 = s.stack1 := rfl
@[simp] theorem takeUp_watch (s : State) (k : StackSlot) : (s.takeUp k).watch = s.watch := rfl
@[simp] theorem takeUp_turn (s : State) (k : StackSlot) : (s.takeUp k).turn = s.turn := rfl
@[simp] theorem takeUp_sweepWait (s : State) (k : StackSlot) : (s.takeUp k).sweepWait = s.sweepWait := rfl
@[simp] theorem takeUp_lockState (s : State) (k : StackSlot) : (s.takeUp k).lockState = s.lockState := rfl
@[simp] theorem takeUp_inFlight (s : State) (k : StackSlot) : (s.takeUp k).inFlight = s.inFlight := rfl
@[simp] theorem takeUp_initialLead (s : State) (k : StackSlot) : (s.takeUp k).initialLead = s.initialLead := rfl
@[simp] theorem takeUp_engine (s : State) (k : StackSlot) : (s.takeUp k).engine = s.engine := rfl
@[simp] theorem takeUp_last (s : State) (k : StackSlot) : (s.takeUp k).last = s.last := rfl
@[simp] theorem takeUp_flags (s : State) (k : StackSlot) : (s.takeUp k).flags = s.flags := rfl
@[simp] theorem takeUp_enables (s : State) (k : StackSlot) : (s.takeUp k).enables = s.enables := rfl
@[simp] theorem takeUp_attn (s : State) (k : StackSlot) : (s.takeUp k).attn = s.attn := rfl
@[simp] theorem takeUp_counters (s : State) (k : StackSlot) : (s.takeUp k).counters = s.counters := rfl
@[simp] theorem takeUp_rewriteCount (s : State) (k : StackSlot) : (s.takeUp k).rewriteCount = s.rewriteCount := rfl
@[simp] theorem takeUp_rewrite (s : State) (k : StackSlot) : (s.takeUp k).rewrite = s.rewrite := rfl
@[simp] theorem takeUp_mark (s : State) (k : StackSlot) : (s.takeUp k).mark = s.mark := rfl
@[simp] theorem takeUp_requested (s : State) (k : StackSlot) : (s.takeUp k).requested = s.requested := rfl
@[simp] theorem takeUp_retirements (s : State) (k : StackSlot) : (s.takeUp k).retirements = s.retirements := rfl
@[simp] theorem takeUp_answers (s : State) (k : StackSlot) : (s.takeUp k).answers = s.answers := rfl
@[simp] theorem takeUp_nextSlot (s : State) (k : StackSlot) : (s.takeUp k).nextSlot = s.nextSlot := rfl
@[simp] theorem takeUp_nextEntry (s : State) (k : StackSlot) : (s.takeUp k).nextEntry = s.nextEntry := rfl
@[simp] theorem takeUp_pending (s : State) (k : StackSlot) : (s.takeUp k).pending = s.pending := rfl

end Sys2Proof.Machine
end

