-- ==== Sys2Proof/Laws/Intake.lean ====
section
/-! SUPPORT. What the settling of the intake buffer can do, said once in plain terms (R60, R66; log entry 20). -/

namespace Sys2Proof.Machine

/-- A pixel to decide is a data pixel taken for the slot's exposure (R66). -/
theorem SlotPixel.toDecide_iff (px : SlotPixel) :
    px.toDecide = true ↔ px.taken = true ∧ ∃ row col, px.cls = .data row col := by
  cases px with
  | mk raw cls taken => cases cls <;> simp [SlotPixel.toDecide]

/-- A skipped slot differs in its cursor alone. -/
theorem IntakeSlot.skip_frame (sl : IntakeSlot) : sl.skip = { sl with cursor := sl.skip.cursor } := rfl

/-- What a skip passes over, and where it stops. -/
theorem takeWhile_stops {α : Type} (p : α → Bool) (l : List α) :
    (l.takeWhile p).length ≤ l.length
      ∧ (∀ n x, n < (l.takeWhile p).length → l[n]? = some x → p x = true)
      ∧ ∀ x, l[(l.takeWhile p).length]? = some x → p x = false := by
  induction l with
  | nil => simp
  | cons a l ih =>
    by_cases h : p a = true
    · refine ⟨by simpa [h] using ih.1, ?_, by simpa [h] using ih.2.2⟩
      rintro (_ | n) x hn hx
      · simp_all
      · exact ih.2.1 n x (by simpa [h] using hn) (by simpa using hx)
    · simp [h]

/-- Where the cursor of a slot stops (R66): past pixels without a decision, at one to decide or past the last. -/
theorem IntakeSlot.skip_stops (sl : IntakeSlot) :
    sl.cursor ≤ sl.skip.cursor ∧ sl.skip.cursor ≤ max sl.cursor sl.pixels.length
      ∧ (∀ n px, sl.cursor ≤ n → n < sl.skip.cursor → sl.pixels[n]? = some px → px.toDecide = false)
      ∧ ∀ px, sl.pixels[sl.skip.cursor]? = some px → px.toDecide = true := by
  obtain ⟨hl, hb, ha⟩ := takeWhile_stops (fun px : SlotPixel => !px.toDecide) (sl.pixels.drop sl.cursor)
  simp only [List.length_drop, List.getElem?_drop] at hl hb ha
  refine ⟨by simp [IntakeSlot.skip], by simp only [IntakeSlot.skip]; omega, ?_, ?_⟩
  · intro n px h1 h2 h3
    have := hb (n - sl.cursor) px (by simp only [IntakeSlot.skip] at h2; omega)
      (by rwa [Nat.add_sub_cancel' h1])
    simpa using this
  · intro px h
    simpa using ha px h

/-- The walk over the slots (R66): each slot's cursor skips, up to and with the first slot not decided. -/
theorem walkSlots_at (l : List IntakeSlot) :
    (walkSlots l).length = l.length
      ∧ ∀ (i : Nat) (x y : IntakeSlot), l[i]? = some x → (walkSlots l)[i]? = some y →
        let reached := ∀ (j : Nat) (z : IntakeSlot), j < i → (walkSlots l)[j]? = some z → z.decided = true
        (reached → y = x.skip) ∧ (¬ reached → y = x) := by
  induction l with
  | nil => simp [walkSlots]
  | cons a l ih =>
    by_cases h : a.skip.decided = true
    · refine ⟨by simp [walkSlots, h, ih.1], ?_⟩
      rintro (_ | i) x y hx hy
      · simp_all [walkSlots]
      · simp only [walkSlots, h, if_true, List.getElem?_cons_succ] at hx hy ⊢
        obtain ⟨h1, h2⟩ := ih.2 i x y hx hy
        have step : (∀ (j : Nat) (z : IntakeSlot), j < i + 1 → (a.skip :: walkSlots l)[j]? = some z → z.decided = true)
            ↔ ∀ (j : Nat) (z : IntakeSlot), j < i → (walkSlots l)[j]? = some z → z.decided = true := by
          constructor
          · intro hr j z hj hz
            exact hr (j + 1) z (by omega) (by simpa using hz)
          · rintro hr (_ | j) z hj hz
            · simp_all
            · exact hr j z (by omega) (by simpa using hz)
        rw [step]
        exact ⟨h1, h2⟩
    · refine ⟨by simp [walkSlots, h], ?_⟩
      rintro (_ | i) x y hx hy
      · simp_all [walkSlots]
      · simp only [walkSlots, h, List.getElem?_cons_succ] at hx hy ⊢
        refine ⟨fun hr => absurd (hr 0 a.skip (by omega) (by simp)) h, fun _ => ?_⟩
        simpa [hx] using hy.symm

/-- A slot that may leave meets the three conditions (R60). -/
theorem IntakeSlot.mayLeave_iff (sl : IntakeSlot) :
    sl.mayLeave = true
      ↔ sl.pixels.length ≤ sl.cursor ∧ sl.copy ≠ .waiting ∧ ∀ f ∈ sl.flats, f.status ≠ .pending := by
  simp [IntakeSlot.mayLeave, IntakeSlot.decided, and_assoc]

/-- Settling changes the intake buffer alone. -/
theorem settleIntake_frame (s : State) : s.settleIntake = { s with intake := s.settleIntake.intake } := rfl

/-- The head of what is left does not meet the condition. -/
theorem head_dropWhile {α : Type} (p : α → Bool) (l : List α) (x : α) (h : (l.dropWhile p).head? = some x) :
    p x = false := by
  induction l with
  | nil => simp at h
  | cons a l ih =>
    by_cases ha : p a = true
    · exact ih (by simpa [ha] using h)
    · simp only [List.dropWhile_cons, ha] at h
      simp_all

/-- What settling does to the intake buffer (R60, R66). -/
theorem settleIntake_settles (s : State) : IntakeSettles s.intake s.settleIntake.intake := by
  obtain ⟨hlen, hat⟩ := walkSlots_at s.intake
  have happ : (walkSlots s.intake).takeWhile IntakeSlot.mayLeave ++ s.settleIntake.intake = walkSlots s.intake :=
    List.takeWhile_append_dropWhile
  refine ⟨(walkSlots s.intake).takeWhile IntakeSlot.mayLeave, by rw [happ, hlen], ?_, ?_, ?_⟩
  · intro x hx
    exact (IntakeSlot.mayLeave_iff x).1 (List.mem_takeWhile_imp hx)
  · intro x hx hl
    have := head_dropWhile IntakeSlot.mayLeave (walkSlots s.intake) x hx
    rw [(IntakeSlot.mayLeave_iff x).2 hl] at this
    cases this
  · intro i x y hx hy
    rw [happ] at hy ⊢
    have hr : (∀ (j : Nat) (z : IntakeSlot), j < i → (walkSlots s.intake)[j]? = some z → z.decided = true)
        ↔ ∀ (j : Nat) (z : IntakeSlot), j < i → (walkSlots s.intake)[j]? = some z → z.pixels.length ≤ z.cursor := by
      simp [IntakeSlot.decided]
    obtain ⟨h1, h2⟩ := hat i x y hx hy
    rw [hr] at h1 h2
    obtain ⟨k1, k2, k3, k4⟩ := x.skip_stops
    refine ⟨?_, fun h => by rw [h2 h], fun h => ?_⟩
    · by_cases h : ∀ (j : Nat) (z : IntakeSlot), j < i → (walkSlots s.intake)[j]? = some z → z.pixels.length ≤ z.cursor
      · rw [h1 h]; exact x.skip_frame
      · rw [h2 h]
    · rw [h1 h]
      refine ⟨k1, k2, fun n px ha hb hc hd => ?_, fun px hc => (SlotPixel.toDecide_iff px).1 (k4 px hc)⟩
      have := k3 n px ha hb hc
      rw [(SlotPixel.toDecide_iff px).2 hd] at this
      cases this

end Sys2Proof.Machine
end

