-- ==== Sys2Proof/Laws/Ops.lean ====
section
/-! SUPPORT. One lemma for each shared operation that says once everything it does, for a proof to cite where it would
otherwise unfold the operation. -/

namespace Sys2Proof.Machine

/-! ### A step and its rewrite requests (R172) -/

/-- A step of a part that is not under RESET. -/
theorem act_of_released {f : State → State} {s : State} (h : s.resetAsserted = false) :
    act f s = .next (f s).settleRequests := by simp [act, h]

/-- Under RESET nothing takes place. -/
theorem act_of_reset {f : State → State} {s : State} (h : s.resetAsserted = true) : act f s = .next s := by
  simp [act, h]

/-- A step always answers a next state. -/
theorem act_next (f : State → State) (s : State) :
    act f s = .next (if s.resetAsserted then s else (f s).settleRequests) := rfl

/-- With nothing requested, the step's end changes nothing. -/
theorem settleRequests_of_quiet {s : State} (h : s.requested = false) (hr : s.retirements = 0) :
    s.settleRequests = s := by
  cases s
  simp_all [State.settleRequests, State.requests, State.takeRequests]

/-- A number of requests, taken one after the other: the first starts a rewrite if none is in progress and no RESTART
drains, and every other sets the mark. -/
theorem takeRequests_eq (n : Nat) (s : State) :
    State.takeRequests n s =
      if n = 0 then s
      else if s.rewrite.isSome ∨ s.restartDraining = true then { s with mark := true }
      else { s with
        rewriteCount := s.rewriteCount + 1, rewrite := some 0, mark := s.mark || decide (2 ≤ n) } := by
  induction n generalizing s with
  | zero => rfl
  | succ n ih =>
    rw [State.takeRequests, ih]
    have hd : s.takeRequest.restartDraining = s.restartDraining := by simp [State.restartDraining]
    rw [hd]
    by_cases h : s.rewrite.isSome ∨ s.restartDraining = true
    · have h1 : s.takeRequest = { s with mark := true } := by simp [State.takeRequest, h]
      simp [h1, h]
    · have h1 : s.takeRequest = s.startRewrite := by simp [State.takeRequest, h]
      rcases n with _ | n <;> simp [h1, h, State.startRewrite]

/-- The step's end changes the rewrite's own fields and nothing else. -/
theorem settleRequests_frame (s : State) :
    s.settleRequests = { s with
      rewriteCount := s.settleRequests.rewriteCount, rewrite := s.settleRequests.rewrite
      mark := s.settleRequests.mark, requested := s.settleRequests.requested
      retirements := s.settleRequests.retirements } := by
  simp only [State.settleRequests, takeRequests_eq]
  split <;> [skip; split] <;> rfl

/-- The end of a step leaves no request. -/
@[simp] theorem settleRequests_requested (s : State) : s.settleRequests.requested = false := by
  simp [State.settleRequests]

/-- The end of a step leaves no retirement counted. -/
@[simp] theorem settleRequests_retirements (s : State) : s.settleRequests.retirements = 0 := by
  simp [State.settleRequests]

/-- What the step's end leaves of the rewrite, from what the step left of it. -/
theorem settleRequests_rewritesAfter {s v : State} (hr : v.rewrite = s.rewrite) (hc : v.rewriteCount = s.rewriteCount)
    (hm : v.mark = s.mark) : RewritesAfter v.requests s v.settleRequests := by
  have hd : v.settleRequests.restartDraining = v.restartDraining := by
    simp [State.restartDraining]
  refine ⟨by simp, by simp, ?_⟩
  rw [hd]
  by_cases h0 : v.requests = 0
  · simp [State.settleRequests, takeRequests_eq, h0, hr, hc, hm]
  · by_cases h : v.rewrite.isSome ∨ v.restartDraining = true
    · have h1 : v.settleRequests = { v with mark := true, requested := false, retirements := 0 } := by
        rw [State.settleRequests, takeRequests_eq, if_neg h0, if_pos (by exact h)]
      simp only [h1, hr, hc, h0, if_false]
      rw [if_pos (by rwa [hr] at h)]
    · have h1 : v.settleRequests = { v with
          rewriteCount := v.rewriteCount + 1, rewrite := some 0, mark := v.mark || decide (2 ≤ v.requests)
          requested := false, retirements := 0 } := by
        rw [State.settleRequests, takeRequests_eq, if_neg h0, if_neg (by exact h)]
      simp only [h1, hc, hm, h0, if_false]
      rw [if_neg (by rwa [hr] at h)]

/-! ### Flags, counters and commands (R161, R166 to R170) -/

/-- A setting event: the flag's bit is set, the attention line follows, and a flag change requests a rewrite. -/
theorem setFlag_eq (f : Flag) (s : State) (h : s.attn = attention s.flags s.enables) :
    s.setFlag f = { s with
      flags := s.flags ||| f.mask, attn := attention (s.flags ||| f.mask) s.enables
      requested := s.requested || !s.flagSet f } := by
  unfold State.setFlag
  split
  · rename_i hf
    have : s.flags ||| f.mask = s.flags := by
      rw [State.flagSet] at hf
      revert hf
      generalize s.flags = w
      cases f <;> simp only [Flag.bit, Flag.mask] <;> intro hf <;> ext i hi <;>
        simp only [BitVec.getElem_or] at * <;>
        interval_cases i <;> simp_all
    simp [this, hf, ← h]
  · rename_i hf
    simp [hf]

/-- A flag is set after its setting event. -/
theorem flagSet_setFlag (f : Flag) (s : State) : (s.setFlag f).flagSet f = true := by
  unfold State.setFlag
  split
  · assumption
  · simp only [State.flagSet]
    generalize s.flags = w
    cases f <;> simp [Flag.bit, Flag.mask]

/-- A counter's rise, at the counter and at the others. -/
theorem counter_bump (c d : Counter) (s : State) :
    (s.bump c).counter d = if d = c then saturatingSucc (s.counter c) else s.counter d := by
  cases c <;> cases d <;> simp [State.bump, State.counter, Counter.index]

/-- The end of a command: the result recorded, COMMAND_DONE set, the engine IDLE, a rewrite requested. -/
theorem endCommand_eq (code tag : BitVec 8) (r : ResultCode) (d : Nat) (s : State)
    (h : s.attn = attention s.flags s.enables) :
    s.endCommand code tag r d = { s with
      last := { tag := tag, code := code, result := r, detail := d }, engine := .idle
      flags := s.flags ||| Flag.mask .commandDone, attn := attention (s.flags ||| Flag.mask .commandDone) s.enables
      requested := true } := by
  unfold State.endCommand
  rw [setFlag_eq _ _ (by simpa using h)]
  simp [State.request]

end Sys2Proof.Machine
end

