-- ==== Sys2Proof/Tests/Slice0.lean ====
section
/-! SUPPORT. The author's tests: ill-formed commands that WellFormed refuses, worked examples of the manual, one step of
the part at a time on small states, and for each statement with hypotheses a theorem (`test_meets_…`) with a state and
operands that meet them. -/

open Sys2Proof Sys2Proof.Machine

namespace Sys2Proof.Tests

/-! ### Well-formedness (R128, R133, R157, R20) -/

theorem test_wf_refuses_misaligned :
    (Instr.cameraTransfer { initiator := 0, addr := 6, size := .word, op := .read }).wf = false := by decide

theorem test_wf_refuses_wide_data :
    (Instr.cameraTransfer { initiator := 0, addr := 6, size := .half, op := .write 65536 }).wf = false := by decide

theorem test_wf_refuses_level_0 : (Instr.acknowledgeTransfer 0 0).wf = false := by decide

theorem test_wf_refuses_level_0_of_a_transfer :
    (Instr.cameraTransfer { initiator := 0, addr := 0, size := .byte, op := .acknowledge 0 }).wf = false := by decide

theorem test_wf_refuses_byte_raw_write : (Instr.rawWrite 0 0 .byte 0).wf = false := by decide

theorem test_wf_refuses_command_code_as_bad :
    (Instr.badCommand 0 10 0 0).wf = false ∧ (Instr.badCommand 0 11 0 0).wf = true := by decide

theorem test_wf_refuses_misaligned_flat_line : (Instr.flatReadDone 0 16 .fault).wf = false := by decide

/-! ### Worked examples of the manual: decoding a pixel (01, "one pixel of a large segment", "a line across a row end") -/

/-- Segment 40 of the first example. -/
def seg40 : SegRecord :=
  { SegRecord.empty with
    valid := true, granularity := .page, rawLimit := 2095, prescan := 16, W := 2048, ov := 32, H := 2048, K := 4
    orientation := 1, X0 := 4096, Y0 := 0, flatBase := some 0 }

theorem test_large_segment_class : classOf seg40 21060 = .data 10 84 := by decide

theorem test_large_segment_position : mosaicOf seg40 12 (-7) 10 84 = (6068, 3) := by decide

theorem test_large_segment_off_frame : (mosaicOf seg40 12 (-7) 3 84).2 = -4 := by decide

theorem test_large_segment_addresses :
    cellAddress { StackRecord.reset with width := 16384 } 6068 3 = 441760
      ∧ flatAddress 0 seg40 10 84 = 41128 := by decide

/-- Segment 17 of the second example. -/
def seg17 : SegRecord :=
  { SegRecord.empty with
    valid := true, rawBase := 0x40003000, rawLimit := 127, prescan := 3, W := 8, ov := 4, H := 4, K := 2, S := 60000
    G := 4096, k := 1, orientation := 6, X0 := 100, Y0 := 200, flatBase := some 0x40004000 }

theorem test_small_segment_classes :
    classOf seg17 50 = .data 3 2 ∧ classOf seg17 59 = .overscan 3 ∧ classOf seg17 60 = .overrun
      ∧ classOf seg17 47 = .prescan := by decide

theorem test_small_segment_position :
    mosaicOf seg17 (-2) 5 3 2 = (101, 209) ∧ mosaicOf seg17 (-2) 5 3 7 = (101, 206) := by decide

theorem test_small_segment_cell :
    cellAddress { StackRecord.reset with width := 512 } 101 212 / 32 = 27161
      ∧ laneIndex (cellAddress { StackRecord.reset with width := 512 } 101 212) = 1 := by decide

theorem test_small_segment_passes : ({ seg17 with biasSeed := 16000 }).passesR3 = true := by decide

/-! ### Worked examples: bias, contributions, cells, rendering (03, 04, 05, 06) -/

theorem test_bias_row_under_smoothing :
    newBias 8 3 16196 { row := 211, sum := 8471, n := 8, max := 1390 } = 16195 := by decide

theorem test_bias_row_after_a_lost_one :
    newBias 8 2 16000 { row := 6, sum := 8009, n := 8, max := 1003 } = 16004 := by decide

theorem test_bias_row_without_rejection :
    newBias 4 1 16000 { row := 3, sum := 4016, n := 4, max := 1010 } = 16016
      ∧ rowMean 3 { row := 0, sum := 3015, n := 3, max := 1010 } = 16080 := by decide

theorem test_combined_factor :
    combinedFactor 6144 24576 = 147456 ∧ combinedFactor 3 200 = 1 ∧ combinedFactor 1 512 = 1
      ∧ combinedFactor 1 511 = 0 := by decide

theorem test_contributions_of_a_line :
    contributionValue 1250 16000 4096 16384 17000 = 1038 ∧ contributionValue 990 16000 4096 16384 16384 = -40
      ∧ contributionValue 999 16000 4096 16384 2048 = -1 := by decide

theorem test_contribution_tie_and_clamp :
    contributionValue 1000 16196 6144 16384 16384 = -74 ∧ contributionValue 1523 16196 6144 16384 16712 = 3126
      ∧ contributionValue 40000 16000 65535 32768 32768 = 8388607 := by decide

theorem test_cell_through_five_exposures :
    ([ContribKind.add 3126 false, .add 3090 false, .add 3150 true, .add 9800 false, .satOnly].foldl
      (fun c k => (applyTo k c).1) { sum := 0, peak := 0, count := 0, sat := false, deg := false })
      = { sum := 19166, peak := 9800, count := 4, sat := true, deg := true } := by decide

theorem test_cell_at_full_depth :
    applyTo (.add 3500 true) { sum := 201600, peak := 3400, count := 63, sat := false, deg := false }
      = ({ sum := 201600, peak := 3400, count := 63, sat := false, deg := false }, .overflow) := by decide

theorem test_render_of_a_small_stack :
    renderPixel 3 { sum := 19166, peak := 9800, count := 4, sat := true, deg := true } = 3122
      ∧ renderPixel 0 { sum := 19166, peak := 9800, count := 4, sat := true, deg := true } = 4792
      ∧ renderPixel 3 { sum := 71, peak := 50, count := 3, sat := false, deg := false } = 11
      ∧ renderPixel 3 { sum := -26, peak := -5, count := 3, sat := false, deg := false } = -11 := by decide

theorem test_render_markers :
    renderPixel 3 { sum := 0, peak := 0, count := 0, sat := false, deg := false } = -2147483648
      ∧ renderPixel 3 { sum := 0, peak := 0, count := 0, sat := true, deg := false } = 2147483647 := by decide

theorem test_cell_layout :
    cellBytes { sum := -2, peak := -1, count := 5, sat := true, deg := false } = 0x45FFFFFFFFFFFFFE
      ∧ cellOf 0xC5FFFFFF00000007 = { sum := 7, peak := -1, count := 5, sat := true, deg := true } := by decide

theorem test_command_word : commandWord 8 0x55 0x7FFF = 0x7FFF5508#32 ∧ wordCode 0x7FFF5508#32 = 8#8 := by decide

/-! ### States for the witnesses -/

/-- A camera-side transfer of initiator 0. -/
def at_ (a : BitVec 40) (size : Size) (op : Op) : Transfer := { initiator := 0, addr := a, size := size, op := op }

/-- An exposure with one pixel outstanding and its expiry due. -/
def expo : Exposure :=
  { id := 9, stackSlot := .zero, dx := -2, dy := 5, E := 16384, stallTimeout := 20, segSet := 1, state := .reading
    cutReason := none, outcome := none, ended := 0, outstanding := 1, timer := some 0
    tallies := { Tallies.zero with taken := 1 } }

/-- An OPEN stack that one exposure names. -/
def openStack : StackRecord :=
  { state := .openState, cellBase := 0x50000000, outputBase := 0x60000000, width := 512, height := 512, Nrej := 3
    cursor := 512, refCount := 1 }

/-- Segment 0 is reading exposure 9 on stack 0. -/
def busy : State :=
  { State.reset with
    initialLead := false, rewrite := none
    segs := State.reset.segs.set 0 seg17
    progress := State.reset.progress.set 0 { state := .reading 9, count := 48, B := 16000, acc := none }
    queue := [expo], stack0 := openStack }

/-- A slot of one pixel with its flat line PENDING and its copy WAITING. -/
def slot : IntakeSlot :=
  { tag := 3, seg := 0, addr := 0x40003060, size := .half
    pixels := [{ raw := 1100, cls := .data 3 0, taken := true }]
    record := seg17, B := 16000, exposure := some 9, flats := [{ addr := 0x40004020, status := .pending }]
    copy := .waiting, cursor := 0 }

/-- A contribution of exposure 9. -/
def contribution : Contribution := { kind := .add 400 true, exposure := 9, stackSlot := .zero, x := 101, y := 212 }

/-- A placement entry of one lane. -/
def entry (tag : Nat) (state : EntryState) : Entry :=
  { tag := tag, line := 0x50000000, lanes := (Vector.replicate 4 none).set 1 (some contribution), state := state }

/-- A transfer in flight. -/
def flying (o : Owner) (addr : Nat) (live : Bool) : InFlight :=
  { owner := o, transfer := lineRead addr, live := live }

/-- The engine executes a command. -/
def commanded (code : CommandCode) (arg : BitVec 16) (phase : Phase) : Engine :=
  .executing { code := code, tag := 0x55, arg := arg } phase

/-- `busy` with the engine at the end of its parameter reads. -/
def awaiting (code : CommandCode) (arg : BitVec 16) : State :=
  { busy with
    engine := commanded code arg (.params (some 0)), inFlight := [flying .command 0x60 true] }

/-- The state a step answers. -/
def next (o : Host.Outcome State Fault Refusal) : State :=
  match o with
  | .next s => s
  | _ => State.reset

/-- Without a plan no transfer meets a raw window. -/
theorem test_no_window (t : Transfer) (s : State) (h : s.segs = State.reset.segs) : s.windowOf t = none := by
  simp [State.windowOf, List.find?_eq_none, h, State.reset, State.released, State.pinReset, SegRecord.empty,
    SegRecord.touchedBy]

theorem test_busy_progress : ∀ i : SegIdx, busy.progress[i].state.exposure = nextAssignment i busy.queue := by decide

theorem test_busy_ledger : busy.LedgerBalances := by
  refine ⟨by decide, ?_, by decide, test_busy_progress, by decide⟩
  simp only [busy, List.mem_singleton, forall_eq, Exposure.InOrder]
  decide

/-! ### Witnesses: the step, the pins and the camera-side port -/

theorem test_meets_StepRunsTheQueue :
    ({ State.reset with pending := [.arbiterGrant] }).pending = .arbiterGrant :: []
      ∧ busy.pending = [] ∧ busy.resetAsserted = false ∧ (busy.queue.map (·.id)).Nodup
      ∧ busy.queue = [] ++ expo :: [] ∧ expo.id = (9#16).toNat ∧ expo.state = .reading ∧ expo.timer = some 0
      ∧ (∀ e ∈ ({ busy with queue := [{ expo with timer := some 1 }] }).queue, ¬ (e.state = .reading ∧ e.timer = some 0))
      ∧ ({ busy with resetAsserted := true }).pending = [] ∧ ({ busy with resetAsserted := true }).resetAsserted = true := by
  decide

theorem test_meets_ResetAssertStopsThePorts :
    busy.resetAsserted = false ∧ ({ busy with resetAsserted := true }).resetAsserted = true
      ∧ ∀ b l, Instr.arbiterGrant ≠ .resetRelease b l :=
  ⟨rfl, rfl, fun _ _ => by simp⟩

theorem test_meets_ResetReleaseGivesEveryBlockItsResetValue : ({ busy with resetAsserted := true }).resetAsserted = true :=
  rfl

/-- An ordinary read with no copy noted, one behind the copy of its half-word, a LOCKED read behind the copy of its line,
and an acknowledge of another level than the strapped one. -/
theorem test_meets_OrdinaryTransferIsForwardedOrHeldBehindCopies :
    State.reset.Running ∧ State.reset.PortFree
      ∧ (at_ 0x100 .line .read).aligned = true ∧ State.reset.Ordinary (at_ 0x100 .line .read)
      ∧ State.reset.copiesNoted (at_ 0x100 .line .read) = []
      ∧ ({ State.reset with intake := [slot] }).copiesNoted (at_ 0x40003060 .half .read) = [3]
      ∧ ({ State.reset with intake := [slot] }).Ordinary (at_ 0x40003060 .half .read)
      ∧ ({ State.reset with intake := [slot] }).copiesNoted (at_ 0x4000307F .byte .lockedRead) = [3]
      ∧ State.reset.answersLevel 3 = false := by
  refine ⟨by decide, by decide, by decide, ⟨test_no_window _ _ rfl, by decide, by decide, by decide, by decide⟩, by decide,
    by decide, ⟨test_no_window _ _ rfl, by decide, by decide, by decide, by decide⟩, by decide, by decide⟩

/-- The regions of R130 at their ends: a window of 128 bytes, a cell region of 2 MiB, and the control area. -/
theorem test_regions_at_their_ends :
    busy.windowOf (at_ 0x4000307F .byte .read) = some 0 ∧ busy.windowOf (at_ 0x40003080 .byte .read) = none
      ∧ busy.cellRegionOf (at_ 0x50000000 .byte .read) = some .zero
      ∧ busy.cellRegionOf (at_ 0x4FFFFFFF .byte .read) = none
      ∧ busy.inControlLine (at_ 0x1F .byte .read) = true ∧ busy.inControlLine (at_ 0x20 .byte .read) = false
      ∧ busy.inTables (at_ 0x3F .byte .read) = false ∧ busy.inTables (at_ 0x40 .byte .read) = true
      ∧ busy.inTables (at_ 0x7F .byte .read) = true ∧ busy.inTables (at_ 0x80 .byte .read) = false
      ∧ busy.inTables (at_ 0xFFF .byte .read) = false ∧ busy.inTables (at_ 0x1000 .byte .read) = true
      ∧ busy.inTables (at_ 0x2FFF .byte .read) = true ∧ busy.inTables (at_ 0x3000 .byte .read) = false := by
  decide

/-- Initiator 0 holds the lock of a line: a write of the sequence at the line's last byte in ordinary memory, in a raw
window and in a cell region; a write just past the line; and a locked write without a lock. -/
theorem test_meets_TransfersDuringALock :
    let l (line : Nat) : LockRecord := { initiator := 0, line := line }
    let locked (line : Nat) : State := { busy with lock := some (l line), lockState := .held }
    (locked 0).Running ∧ (locked 0).current = none
      ∧ (at_ 31 .byte (.lockedWrite 1)).isLockedWrite = true ∧ lineOf (at_ 31 .byte (.lockedWrite 1)).start = 0
      ∧ (locked 0).windowOf (at_ 31 .byte (.lockedWrite 1)) = none
      ∧ (locked 0).cellRegionOf (at_ 31 .byte (.lockedWrite 1)) = none
      ∧ (locked 0).outputRegionOf (at_ 31 .byte (.lockedWrite 1)) = none
      ∧ ((locked 0x40003000).windowOf (at_ 0x40003000 .word (.lockedWrite 1))).isSome
      ∧ (locked 0x50000000).windowOf (at_ 0x50000000 .word (.lockedLastWrite 1)) = none
      ∧ ((locked 0x50000000).cellRegionOf (at_ 0x50000000 .word (.lockedLastWrite 1))).isSome
      ∧ ¬ ((at_ 32 .byte (.lockedWrite 1)).isLockedWrite = true ∧ lineOf (at_ 32 .byte (.lockedWrite 1)).start = 0)
      ∧ busy.lock = none := by
  decide

/-- A transfer of another initiator than the locking one, and levels the part answers and does not. -/
theorem test_meets_TransfersDuringALockOfOthers :
    let l : LockRecord := { initiator := 5, line := 0 }
    let s : State := { State.reset with lock := some l, lockState := .held, level := 2 }
    s.Running ∧ s.current = none ∧ (at_ 0 .word .read).aligned = true ∧ s.lock = some l
      ∧ (at_ 0 .word .read).initiator ≠ l.initiator ∧ s.answersLevel 1 = false ∧ s.answersLevel 2 = true := by
  decide

/-- Each row of R132 at the window of segment 0: a read at its first byte, a read behind an unwritten copy, a BYTE write,
a LINE write that straddles the end of a window of 100 bytes, and a WORD write at the window's last word, allowed and not,
with the intake buffer at 7 and at 8 slots. -/
theorem test_meets_RawWindowTransfersAreDecidedInOrder :
    let short : State := { busy with segs := State.reset.segs.set 0 { seg17 with rawLimit := 99, writer := .any } }
    busy.Running ∧ busy.PortFree
      ∧ busy.windowOf (at_ 0x40003000 .line .read) = some 0 ∧ busy.copiesNoted (at_ 0x40003000 .line .read) = []
      ∧ ({ busy with intake := [slot] }).copiesNoted (at_ 0x40003060 .line .read) ≠ []
      ∧ short.windowOf (at_ 0x40003060 .line (.write 0)) = some 0
      ∧ (at_ 0x40003060 .line (.write 0)).inside 0x40003000 100 = false
      ∧ busy.windowOf (at_ 0x4000307C .word (.write 0)) = some 0
      ∧ (at_ 0x4000307C .word (.write 0)).aligned = true
      ∧ seg17.writer.allows 0 = true ∧ seg17.writer.allows 1 = false
      ∧ ({ busy with intake := List.replicate 7 slot }).intake.length < 8
      ∧ 8 ≤ ({ busy with intake := List.replicate 8 slot }).intake.length := by
  decide

/-- A HALF write of the data pixel 50 of segment 0, the buffer holding 7 slots: the pixel is taken, and its flat line is
entered. -/
theorem test_meets_RawWriteIsTakenIntoIntake :
    let s : State := { busy with intake := List.replicate 7 slot }
    let t := at_ 0x40003064 .half (.write 7)
    s.Running ∧ s.PortFree ∧ t.aligned = true ∧ s.windowOf t = some 0 ∧ Size.half ≠ .byte
      ∧ (next (exec (.rawWrite 0 0x40003064 .half 7) { s with intake := [] })).intake.map (fun x => (x.exposure, x.flats))
          = [(some 9, [{ addr := 0x40004020, status := .pending }])]
      ∧ ¬ (Size.half = .line ∧ t.inside seg17.rawBase seg17.windowSize = false)
      ∧ s.segs[(0 : SegIdx)].writer.allows 0 = true ∧ s.intake.length < 8 := by
  decide

theorem test_meets_RawWriteIntoIdleSegmentIsAllOrphans :
    let s : State := { State.reset with segs := State.reset.segs.set 0 seg17 }
    let t := at_ 0x40003000 .line (.write 7)
    s.Running ∧ s.PortFree ∧ t.aligned = true ∧ s.windowOf t = some 0
      ∧ t.inside seg17.rawBase seg17.windowSize = true ∧ s.segs[(0 : SegIdx)].writer.allows 0 = true
      ∧ s.intake.length < 8 ∧ s.progress[(0 : SegIdx)].state = .idle := by
  decide

/-- Stack 0 in each state: a cell read at the cursor row and just below it, a held cell read, a write; and an output read
at the cursor row and below it. -/
theorem test_meets_StackRegionTransfers :
    let with_ (st : StackState) (cursor : Nat) : State :=
      { State.reset with stack0 := { openStack with state := st, cursor := cursor } }
    let cell := at_ 0x50001000 .line .read
    let out := at_ 0x60000800 .line .read
    (with_ .clearing 1).Running ∧ (with_ .clearing 1).PortFree ∧ cell.aligned = true
      ∧ (with_ .clearing 1).windowOf cell = none ∧ (with_ .clearing 1).cellRegionOf cell = some .zero
      ∧ (cell.start - 0x50000000) / (512 * 8) = 1 ∧ (with_ .clearing 2).cellRegionOf cell = some .zero
      ∧ (with_ .openState 512).cellRegionOf cell = some .zero
      ∧ ({ with_ .openState 512 with entries := [{ entry 0 .waiting with line := 0x50001000 }] }).entries.filter
          (fun e : Entry => e.line = lineOf cell.start) ≠ []
      ∧ (with_ .rendered 512).cellRegionOf (at_ 0x50001000 .byte (.write 1)) = some .zero
      ∧ (with_ .rendering 1).cellRegionOf out = none ∧ (with_ .rendering 1).outputRegionOf out = some .zero
      ∧ (with_ .rendering 2).outputRegionOf out = some .zero ∧ (out.start - 0x60000000) / (512 * 4) = 1
      ∧ (with_ .rendered 512).outputRegionOf (at_ 0x60000800 .word .lockedRead) = some .zero
      ∧ (with_ .rendered 512).copiesNoted (at_ 0x60000800 .word .lockedRead) = []
      ∧ ({ with_ .rendered 512 with intake := [{ slot with addr := 0x6000081E }] }).copiesNoted
          (at_ 0x60000800 .word .lockedRead) ≠ [] := by
  refine ⟨by decide, by decide, by decide, test_no_window _ _ rfl, ?_⟩
  decide

/-- The last bytes of the command-word line, of the parameter block and of the plan table. -/
theorem test_meets_ControlAreaTransfers :
    let s := State.reset
    let x : State := { State.reset with engine := commanded .report 0 (.params none) }
    s.Running ∧ s.PortFree ∧ (at_ 0 .line (.write 0)).aligned = true ∧ (∀ t, s.windowOf t = none)
      ∧ s.cellRegionOf (at_ 0 .line (.write 0)) = none ∧ s.outputRegionOf (at_ 0 .line (.write 0)) = none
      ∧ s.inControlLine (at_ 0 .line (.write 0)) = true ∧ s.inControlLine (at_ 0x1C .word (.write 0)) = true
      ∧ (at_ 0x1C .word (.write 0)).start ≠ s.controlBase ∧ (at_ 0x1C .word (.write 0)).start ≠ s.controlBase + 4
      ∧ s.inControlLine (at_ 0x1F .byte (.write 0)) = true
      ∧ x.inControlLine (at_ 0x7F .byte (.write 0)) = false ∧ x.inTables (at_ 0x7F .byte (.write 0)) = true
      ∧ x.executing = true ∧ x.inTables (at_ 0x2FFF .byte .lockedRead) = true
      ∧ s.inTables (at_ 0x2FFF .byte .lockedRead) = true ∧ s.executing = false
      ∧ s.copiesNoted (at_ 0x2FFF .byte .lockedRead) = []
      ∧ ({ s with intake := [{ slot with addr := 0x2FE0 }] }).copiesNoted (at_ 0x2FFF .byte .lockedRead) ≠ [] := by
  refine ⟨by decide, by decide, by decide, fun t => test_no_window t _ rfl, ?_⟩
  decide

/-- Each hold with the condition of its release met, and not met. -/
theorem test_meets_HoldsAreReleased :
    let t := at_ 0x40003060 .half (.write 7)
    let held (r : HoldReason) : State := { busy with current := some { transfer := t, stage := .held r } }
    (held .intakeFull).Running ∧ t.aligned = true ∧ (held .intakeFull).intake.length < 8
      ∧ (held .intakeFull).lock = none ∧ (held .intakeFull).windowOf t = some 0
      ∧ t.inside seg17.rawBase seg17.windowSize = true ∧ busy.segs[(0 : SegIdx)].writer.allows t.initiator = true
      ∧ 8 ≤ ({ held .intakeFull with intake := List.replicate 8 slot }).intake.length
      ∧ (held .command).engine = .idle ∧ (held .command).copiesNoted t = []
      ∧ ({ held .command with intake := [slot] }).copiesNoted t ≠ []
      ∧ ({ held .command with engine := commanded .report 0 (.params none) }).engine ≠ .idle
      ∧ (∀ e ∈ (held (.placement [4])).entries, e.tag ∉ [4])
      ∧ (∃ e ∈ ({ held (.placement [4]) with entries := [entry 4 .waiting] }).entries, e.tag ∈ [4])
      ∧ (∀ n ∈ [3], (held (.copy [3])).copyUnwritten n = false)
      ∧ (∃ n ∈ [3], ({ held (.copy [3]) with intake := [slot] }).copyUnwritten n = true) := by
  decide

/-- The terminations of an ordinary read, of an acknowledge, of a LOCKED_LAST write and of a LOCKED read given FAULT. -/
theorem test_meets_ForwardedTerminationIsRelayed :
    let of (op : Op) : State :=
      { busy with
        current := some { transfer := at_ 0 .word op, stage := .forwarding }, inFlight := [flying .forward 0 true] }
    (of .read).Running ∧ (of .read).inFlightFor .forward = true ∧ (of (.acknowledge 3)).inFlightFor .forward = true
      ∧ ¬ ((∃ d, Op.read = .lockedLastWrite d) ∨ (Op.read = .lockedRead ∧ Termination.fault = .fault))
      ∧ (of (.lockedLastWrite 1)).inFlightFor .forward = true ∧ (of .lockedRead).inFlightFor .forward = true :=
  ⟨by decide, by decide, by decide, by rintro (⟨d, h⟩ | ⟨h, -⟩) <;> simp at h, by decide, by decide⟩

theorem test_meets_AcknowledgeReturnsTheLowestCause :
    let s : State := { State.reset with level := 7, flags := 0x4000, enables := 0x4000, attn := true }
    let q : State := { State.reset with level := 1 }
    s.Running ∧ s.current = none ∧ s.level ≠ 0 ∧ 7 = s.level ∧ s.attn = true
      ∧ q.Running ∧ q.level ≠ 0 ∧ q.attn = false := by
  decide

theorem test_meets_AcknowledgeWordClearsFlagsAndCounters :
    State.reset.Running ∧ State.reset.PortFree
      ∧ State.reset.ControlLineClear (State.reset.controlWrite 0 4 (ackWord true 0x400)) :=
  ⟨by decide, by decide, test_no_window _ _ rfl, by decide, by decide, by decide⟩

/-! ### Witnesses: exposures, bias, intake and calibration -/

theorem test_meets_PixelOfferedToArmedSegment :
    let s : State := { busy with
      progress := State.reset.progress.set 0 { state := .armed 9, count := 0, B := 16000, acc := none } }
    (s.queue.map (·.id)).Nodup ∧ s.progress[(0 : SegIdx)].state = .armed 9 ∧ 1 < s.segs[(0 : SegIdx)].extent := by
  decide

/-- A pixel that leaves the frame one short of its extent of 60, one that completes it, and a pixel of index 0. -/
theorem test_meets_PixelOfferedToReadingSegment :
    let joined (e : Exposure) : Exposure := if e.id = 9 then { e with ended := e.ended ||| segMask 0 } else e
    let second : Exposure := { expo with
      id := 10, state := .queued, timer := none, outstanding := 0, tallies := Tallies.zero }
    let at_count (n : Nat) : State :=
      { busy with progress := busy.progress.set 0 { state := .reading 9, count := n, B := 16000, acc := none } }
    busy.LedgerBalances ∧ (at_count 59).LedgerBalances ∧ busy.progress[(0 : SegIdx)].state = .reading 9
      ∧ busy.progress[(0 : SegIdx)].count + 1 < busy.segs[(0 : SegIdx)].extent
      ∧ busy.segs[(0 : SegIdx)].extent ≤ (at_count 59).progress[(0 : SegIdx)].count + 1
      ∧ 1 < busy.segs[(0 : SegIdx)].extent
      ∧ nextAssignment 0 (busy.queue.map joined) = none ∧ nextAssignment 0 ((busy.queue ++ [second]).map joined) = some 10 := by
  refine ⟨test_busy_ledger, ⟨by decide, ?_, by decide, by decide, by decide⟩, by decide, by decide, by decide, by decide,
    by decide, by decide⟩
  exact test_busy_ledger.2.1

/-- A drained head, with and without a DONE exposure behind it, the retired list full; and an exposure that reads. -/
theorem test_meets_DrainedExposureIsDoneAndRetires :
    let e : Exposure := { expo with
      state := .draining, ended := 1, outstanding := 0, tallies := { Tallies.zero with taken := 1, lost := 1 }
      outcome := some { cut := false, degraded := false }, timer := none }
    let s : State := { busy with queue := [e, { e with id := 10, state := .done }], retired := List.replicate 4 (retiredOf e) }
    (s.queue.map (·.id)).Nodup ∧ (s.queue.length ≤ 4 ∧ s.retired.length ≤ 4 ∧ s.intake = [] ∧ s.entries = [])
      ∧ s.attn = attention s.flags s.enables ∧ e ∈ s.queue ∧ e.id = 9 ∧ e.state = .draining ∧ e.outstanding = 0
      ∧ expo ∈ busy.queue ∧ ¬ (expo.state = .draining ∧ expo.outstanding = 0) := by
  decide

/-- A timer of 0 in READING, and one millisecond before. -/
theorem test_meets_StallExpiryCutsTheExposure :
    busy.Running ∧ busy.LedgerBalances
      ∧ (expo ∈ busy.queue ∧ expo.id = (9#16).toNat ∧ expo.state = .reading ∧ expo.timer = some 0)
      ∧ ∀ e ∈ ({ busy with queue := [{ expo with timer := some 1 }] }).queue,
          e.id = (9#16).toNat → e.state ≠ .reading ∨ e.timer ≠ some 0 :=
  ⟨by decide, test_busy_ledger, by decide, by decide⟩

/-- The widest and the narrowest row, without smoothing and with the greatest. -/
theorem test_meets_CompleteRowMovesBiasTowardsItsMean :
    (let a : Accumulator := { row := 0, sum := 65535 * 64, n := 64, max := 65535 }
     (64 : Nat) ≤ 64 ∧ (7 : Nat) ≤ 7 ∧ (1048560 : Nat) ≤ 1048560 ∧ a.n = 64 ∧ a.max ≤ a.sum ∧ a.max ≤ 65535
       ∧ a.sum ≤ a.max + 65535 * (a.n - 1))
    ∧ (let a : Accumulator := { row := 0, sum := 0, n := 1, max := 0 }
       (1 : Nat) ≤ 1 ∧ a.n = 1 ∧ a.max ≤ a.sum ∧ a.sum ≤ a.max + 65535 * (a.n - 1)) := by
  decide

theorem test_meets_OverscanPixelIsGathered :
    let with_ (a : Option Accumulator) : State :=
      { busy with progress := busy.progress.set 0 { state := .reading 9, count := 56, B := 16000, acc := a } }
    let three : Accumulator := { row := 3, sum := 3006, n := 3, max := 1003 }
    busy.attn = attention busy.flags busy.enables
      ∧ ({ with_ (some three) with requested := true }).attn = attention busy.flags busy.enables
      ∧ (with_ none).progress[(0 : SegIdx)].acc = none
      ∧ (with_ (some three)).progress[(0 : SegIdx)].acc = some three ∧ three.row = 3 ∧ three.row ≠ 4
      ∧ busy.segs[(0 : SegIdx)].ov = 4 := by
  decide

/-- Segment 17 passes the checks of R3: its first and its last data pixel. Its stack's last cell. -/
theorem test_meets_PixelGeometryIsOneToOne :
    ({ seg17 with biasSeed := 16000 }).passesR3 = true ∧ (3 : Nat) < seg17.H ∧ (7 : Nat) < seg17.W
      ∧ classOf seg17 3 = .data 0 0 ∧ classOf seg17 55 = .data 3 7 ∧ (4 * 15 - 1 : Nat) = 3 * seg17.rowlen + 14
      ∧ openStack.cellBase % 32 = 0 ∧ (511 : Nat) < openStack.width ∧ (511 : Nat) < openStack.height
      ∧ onFrame openStack (511, 511) = true ∧ onFrame openStack (512, 0) = false ∧ onFrame openStack (0, -1) = false := by
  decide

theorem test_meets_CopyAndFlatTerminations :
    let s (live : Bool) : State :=
      { busy with intake := [slot], inFlight := [flying (.copy 3) 0x40003060 live, flying (.flat 3) 0x40004020 live] }
    (s true).Running
      ∧ (s true).inFlight.find? (fun x => x.owner == .copy 3) = some (flying (.copy 3) 0x40003060 true)
      ∧ (s false).inFlight.find? (fun x => x.owner == .copy 3) = some (flying (.copy 3) 0x40003060 false)
      ∧ (s true).inFlight.find? (fun x => x.owner == .flat 3 && x.transfer.addr == 0x40004020)
          = some (flying (.flat 3) 0x40004020 true)
      ∧ (s false).inFlight.find? (fun x => x.owner == .flat 3 && x.transfer.addr == 0x40004020)
          = some (flying (.flat 3) 0x40004020 false) := by
  decide

/-- The least and the greatest operands. -/
theorem test_meets_ContributionArithmetic :
    ((0 : Nat) ≤ 65535 ∧ (1048560 : Nat) ≤ 1048560 ∧ (1 : Nat) ≤ 1 ∧ (0 : Nat) ≤ 65535)
      ∧ contributionValue 0 1048560 65535 65535 65535 = -8388608
      ∧ contributionValue 65535 0 65535 65535 65535 = 8388607 ∧ contributionValue 65535 0 1 1 65535 = 0 := by
  decide

/-- The pixel of `slot` off the frame of a narrow stack, with its flat line PENDING, READ as 0, and FAULTED, and with a
raw value at and below the saturation level. -/
theorem test_meets_CalibrationDecidesThePixelAtItsCursor :
    let with_ (sl : IntakeSlot) : State := { busy with intake := [sl] }
    let st (f : FlatStatus) : IntakeSlot := { slot with flats := [{ addr := 0x40004020, status := f }] }
    (with_ slot).Running ∧ (with_ slot).settleIntake.workingSlot = some slot
      ∧ slot.pixels[slot.cursor]? = some { raw := 1100, cls := .data 3 0, taken := true }
      ∧ slot.exposure.bind (with_ slot).exposure? = some expo
      ∧ mosaicOf slot.record expo.dx expo.dy 3 0 = (101, 212)
      ∧ onFrame { openStack with width := 101 } (101, 212) = false ∧ onFrame { openStack with width := 102 } (101, 212) = true
      ∧ flatInput slot 3 0 = none ∧ flatInput (st (.read 0)) 3 0 = some (0, false)
      ∧ flatInput (st .faulted) 3 0 = some (16384, true) ∧ flatInput { slot with flats := [] } 3 0 = none
      ∧ flatInput { slot with record := { seg17 with flatBase := none } } 3 0 = some (16384, false)
      ∧ slot.record.S ≤ 60000 ∧ 59999 < slot.record.S := by
  decide

/-! ### Witnesses: watch entries, placement, sweeps and the status block -/

/-- An entry that matches at its threshold and any column, one whose threshold is one above, and one for SAT_ONLY. -/
theorem test_meets_WatchEntriesCompareAContribution :
    let w (threshold : Int) : WatchEntry :=
      { enabled := true, stackSlot := .zero, x := 0xC000, y := 212, threshold := threshold, hit := none, hitCount := 65535 }
    busy.Settled ∧ (w 400).matches contribution = true ∧ (w 401).matches contribution = false
      ∧ (w 401).matches { contribution with kind := .satOnly } = true
      ∧ ({ w 400 with x := 0xBFFF }).matches contribution = false := by
  decide

/-- A merge into the newest WAITING entry; none into an occupied lane, with 31 and with 32 entries. -/
theorem test_meets_PlacementQueueAcceptsAContribution :
    let s : State := { busy with entries := [entry 0 .reading, entry 1 .waiting] }
    (s.entries.map (·.tag)).Nodup
      ∧ s.entries = [entry 0 .reading] ++ entry 1 .waiting :: [] ∧ (entry 1 .waiting).lanes[(0 : Fin 4)] = none
      ∧ (entry 1 .waiting).lanes[(1 : Fin 4)] ≠ none
      ∧ ({ busy with entries := (List.range 31).map fun n => entry n .reading }).entries.length < 32
      ∧ 32 ≤ ({ busy with entries := (List.range 32).map fun n => entry n .reading }).entries.length
      ∧ (((List.range 32).map fun n => entry n .reading).map (·.tag)).Nodup := by
  decide

theorem test_meets_OldestEligibleEntryIsStarted :
    let other : Entry := { entry 1 .waiting with line := 0x50000020 }
    let s : State := { busy with entries := [entry 0 .reading] ++ other :: [], inFlight := [flying (.placement 0) 0 true] }
    s.Running ∧ (s.entries.map (·.tag)).Nodup ∧ s.placePresented = none ∧ (∀ x ∈ s.entries, s.writeDue x = false)
      ∧ other.state = .waiting ∧ (∀ x ∈ [entry 0 .reading], x.line ≠ other.line)
      ∧ (∀ x ∈ [entry 0 .reading], x.state ≠ .waiting) := by
  decide

theorem test_meets_OccupiedLanesAreAppliedToTheirCells :
    cellOf (cellBytes { sum := -2147483648, peak := -8388608, count := 63, sat := true, deg := true })
        = { sum := -2147483648, peak := -8388608, count := 63, sat := true, deg := true }
      ∧ cellOf (cellBytes { sum := 2147483647, peak := 8388607, count := 0, sat := false, deg := false })
        = { sum := 2147483647, peak := 8388607, count := 0, sat := false, deg := false } := by
  decide

theorem test_meets_PlacementTerminations :
    let e := entry 4 .reading
    let w := entry 4 (.writing 0 [(9, .placed true)])
    let f := flying (.placement 4) 0x50000000 true
    let g : InFlight := { f with transfer := ownWrite 0x50000000 .line 0 (some 2) }
    let s : State := { busy with entries := [e], inFlight := [f] }
    let u : State := { busy with entries := [w], inFlight := [g] }
    s.Running ∧ s.entry? 4 = some e ∧ f.live = true
      ∧ s.inFlight.find? (fun x => x.owner == .placement 4 && x.transfer.op == .read) = some f
      ∧ u.entry? 4 = some w ∧ w.state = .writing 0 [(9, .placed true)] ∧ 0 < expo.outstanding
      ∧ u.inFlight.find? (fun x => x.owner == .placement 4 && x.transfer.op != .read) = some g ∧ g.live = true
      ∧ ({ s with inFlight := [{ f with live := false }] } : State).inFlight.find?
          (fun x => x.owner == .placement 4 && x.transfer.op == .read) = some { f with live := false }
      ∧ ({ u with inFlight := [{ g with live := false }] } : State).inFlight.find?
          (fun x => x.owner == .placement 4 && x.transfer.op != .read) = some { g with live := false } := by
  decide

/-- The first and the last line of a row of 8 cells. -/
theorem test_meets_ClearWriteTermination :
    let f := flying (.clear .zero) 0x50000000 true
    let s (line : Nat) : State := { busy with
      stack0 := { openStack with state := .clearing, width := 8, height := 2, cursor := 1, refCount := 0 }
      sweep := some { slot := .zero, line := line, step := .clear }, inFlight := [f] }
    (s 0).Running ∧ (s 0).inFlight.find? (fun x => x.owner.isClear) = some f ∧ f.live = true
      ∧ ((s 0).stack .zero).state = .clearing ∧ 0 + 1 < ((s 0).stack .zero).width / 4
      ∧ ((s 1).stack .zero).width / 4 ≤ 1 + 1 := by
  decide

theorem test_meets_RenderReadTermination :
    let f := flying (.renderRead .zero) 0x50000000 true
    let s (step : SweepStep) : State := { busy with
      stack0 := { openStack with state := .rendering, cursor := 0, refCount := 0 }
      sweep := some { slot := .zero, line := 0, step := step }, inFlight := [f] }
    (s .renderRead0).Running ∧ (s .renderRead0).inFlight.find? (fun x => x.owner.isRenderRead) = some f ∧ f.live = true
      ∧ (s .renderRead0).sweep = some { slot := .zero, line := 0, step := .renderRead0 }
      ∧ (s (.renderRead1 none)).sweep = some { slot := .zero, line := 0, step := .renderRead1 none } := by
  decide

theorem test_meets_RenderWriteTermination :
    let f := flying (.renderWrite .zero) 0x60000000 true
    let s (line : Nat) : State := { busy with
      stack0 := { openStack with state := .rendering, width := 16, height := 1, cursor := 0, refCount := 0 }
      sweep := some { slot := .zero, line := line, step := .renderWrite 0 }, inFlight := [f] }
    (s 0).Running ∧ (s 0).inFlight.find? (fun x => x.owner.isRenderWrite) = some f ∧ f.live = true
      ∧ ((s 0).stack .zero).state = .rendering ∧ 0 + 1 < ((s 0).stack .zero).width / 8
      ∧ ((s 1).stack .zero).width / 8 ≤ 1 + 1 := by
  decide

/-- A clear mean and one outside the range, at and below Nrej. -/
theorem test_meets_RenderedPixels :
    renderPixel 3 { sum := 25165821, peak := 8388607, count := 3, sat := false, deg := false } = 8388607
      ∧ renderPixel 3 { sum := 16777214, peak := 8388607, count := 2, sat := false, deg := false } = 8388607
      ∧ renderPixel 0 { sum := 2147483647, peak := 0, count := 1, sat := false, deg := false } = 8388607 := by
  decide

theorem test_meets_StatusWriteTermination :
    let f := flying .status 0x100 true
    let s (n : Nat) : State := { busy with rewrite := some n, inFlight := [f] }
    let gone := flying .status 0x100 false
    ({ busy with inFlight := [gone] }).Running ∧ gone.live = false
      ∧ ({ busy with inFlight := [gone] } : State).inFlight.find? (fun x => x.owner == .status) = some gone
      ∧ (s 86).Running ∧ (s 86).inFlight.find? (fun x => x.owner == .status) = some f ∧ f.live = true
      ∧ (s 86).rewrite = some 86 ∧ (86 : Nat) < 87 ∧ (s 87).rewrite = some 87 ∧ (87 : Nat) ≤ 87 := by
  decide

/-! ### Witnesses: the arbiter, the command engine and its commands -/

/-- Both classes with something grantable, one class, and none; and a sweep whose wait count stands at 15. -/
theorem test_meets_ArbiterGrantsByTurnAndOrder :
    let both : State := { busy with
      current := some { transfer := at_ 0 .word .read, stage := .forwarding }, rewrite := some 3
      sweepWait := 15, sweep := some { slot := .zero, line := 0, step := .clear } }
    both.Running ∧ both.initialLead = false ∧ both.restartDraining = false ∧ both.lockState = .free
      ∧ both.forwardGrant = some (.forward, forwarded (at_ 0 .word .read)) ∧ both.turn = .forward
      ∧ both.copyGrant = none ∧ both.sweepGrant.isSome = true ∧ both.internalGrant = both.sweepGrant
      ∧ ({ busy with intake := [slot] }).copyGrant.isSome = true
      ∧ busy.forwardGrant = none ∧ busy.internalGrant = none := by
  decide

/-- Every requester with something to present, and its transfer in flight. -/
theorem test_meets_RequestersPresentTheirTransfers :
    let w (step : SweepStep) : SweepWork := { slot := .zero, line := 0, step := step }
    let s : State := { busy with
      current := some { transfer := at_ 0 .word .read, stage := .forwarding }, intake := [slot], rewrite := some 3
      engine := commanded .loadPlan 0 (.planCheck 127 (some 0) []), entries := [entry 4 (.writing 0 [])]
      placePresented := some 4, sweep := some (w .clear) }
    let r : State := { s with
      inFlight := [flying .forward 0 true, flying (.copy 2) 0x40003060 true, flying .status 0x120 true,
        flying .command 0x2FC0 true, flying (.flat 3) 0x40004020 true, flying (.clear .zero) 0x50000000 true] }
    s.resetAsserted = false ∧ s.forwardRequest = some (forwarded (at_ 0 .word .read))
      ∧ s.copyRequest = some (.copy 3, ownWrite 0x40003060 .half 1100 none) ∧ s.copyGrant = s.copyRequest
      ∧ s.commandRequest = some (.command, lineRead 0x2FE0) ∧ s.placementRequest.isSome = true
      ∧ s.flatGrant = some (.flat 3, lineRead 0x40004020) ∧ s.sweepRequest.isSome = true
      ∧ r.forwardRequest = none ∧ r.copyGrant = none ∧ r.statusRequest = none ∧ r.commandRequest = none
      ∧ r.flatGrant = none ∧ r.sweepRequest = none ∧ r.forwardTouches 0 = true ∧ r.forwardTouches 0x40003060 = true
      ∧ r.forwardTouches 0x50000000 = false := by
  decide

theorem test_meets_LeadingCopyAndLockedSequenceGoAlone :
    let of (lockState : LockState) (inFlight : List InFlight) : State := { busy with
      current := some { transfer := at_ 0 .word .lockedRead, stage := .forwarding }
      lock := some { initiator := 0, line := 0 }, lockState := lockState, inFlight := inFlight }
    State.reset.Running ∧ State.reset.initialLead = true ∧ State.reset.restartDraining = false
      ∧ State.reset.rewrite = some 0 ∧ State.reset.inFlightFor .status = false
      ∧ (of .draining [flying .status 0x100 true]).Running ∧ (of .draining [flying .status 0x100 true]).initialLead = false
      ∧ (of .draining [flying .status 0x100 true]).inFlight ≠ []
      ∧ (of .draining []).forwardRequest = some (forwarded (at_ 0 .word .lockedRead))
      ∧ (of .held []).forwardRequest = some (forwarded (at_ 0 .word .lockedRead))
      ∧ (of .held [flying .forward 0 true]).forwardRequest = none := by
  decide

/-- A code of the lowest and of the highest command, and the codes 0 and 11 that are none. -/
theorem test_meets_CommandWordIsCapturedInIdle :
    State.reset.Running ∧ State.reset.PortFree ∧ State.reset.engine = .idle
      ∧ (∀ w, State.reset.ControlLineClear (State.reset.controlWrite 0 0 w))
      ∧ ((0#8).toNat = 0 ∨ 11 ≤ (0#8).toNat) ∧ ((11#8).toNat = 0 ∨ 11 ≤ (11#8).toNat) := by
  refine ⟨by decide, by decide, by decide, fun w => ⟨test_no_window _ _ rfl, ?_, ?_, ?_⟩, by decide, by decide⟩ <;> rfl

theorem test_meets_CommandWordIsRefusedBusy :
    let s : State := { State.reset with engine := commanded .report 0 (.params none) }
    s.Running ∧ s.PortFree ∧ s.ControlLineClear (s.controlWrite 0 0 (commandWord 10 1 0))
      ∧ s.engine = .executing { code := .report, tag := 0x55, arg := 0 } (.params none) := by
  refine ⟨by decide, by decide, ⟨test_no_window _ _ rfl, ?_, ?_, ?_⟩, rfl⟩ <;> rfl

theorem test_meets_ParameterReadsOrBadParameter :
    let s : State := { busy with engine := commanded .report 0 (.params none), inFlight := [flying .command 0x40 true] }
    s.Running ∧ s.engine = .executing { code := .report, tag := 0x55, arg := 0 } (.params none)
      ∧ s.inFlightFor .command = true ∧ (awaiting .report 0).Running
      ∧ (awaiting .report 0).engine = .executing { code := .report, tag := 0x55, arg := 0 } (.params (some 0)) := by
  decide

/-- The parameter block of an OPEN_EXPOSURE of segment 0 on slot 0 with these offsets and scale: its first line. -/
def exposureLine (dx dy : Int) (E : Nat) (segSet : Nat) : Line :=
  BitVec.ofNat 256 (placeAt 2 2 (unsignedOf 16 dx) + placeAt 4 2 (unsignedOf 16 dy) + placeAt 6 2 E + placeAt 16 16 segSet)

/-- A stack slot, an id, a scale, an offset and a segment set at the edge of each check. -/
theorem test_meets_OpenExposureIsCheckedAndAccepted :
    let p (dx dy : Int) (E segSet : Nat) := exposureParams (block (exposureLine dx dy E segSet) 0)
    let s (arg : BitVec 16) := awaiting .openExposure arg
    (s 1).Running ∧ (s 1).Awaits { code := .openExposure, tag := 0x55, arg := 1 } 0 ∧ (1#16).toNat ≠ 0
      ∧ (s 1).queue.length < 4 ∧ 4 ≤ ({ s 1 with queue := List.replicate 4 expo }).queue.length
      ∧ (∀ e ∈ (s 1).queue, e.id ≠ (1#16).toNat) ∧ (∃ e ∈ (s 9).queue, e.id = (9#16).toNat)
      ∧ (p (-8192) 8191 1 1).slot = StackSlot.zero.number ∧ ((s 1).stack .zero).state = .openState
      ∧ ((s 1).stack .one).state ≠ .openState
      ∧ (p (-8192) 8191 1 1).E ≠ 0 ∧ (p (-8192) 8191 1 1).dx = -8192 ∧ (p (-8192) 8191 1 1).dy = 8191
      ∧ (p (-8193) 8192 0 0).E = 0 ∧ (p (-8193) 8192 0 0).dx < -8192 ∧ 8191 < (p (-8193) 8192 0 0).dy
      ∧ (p (-8192) 8191 1 1).segSet = 1 ∧ (p 0 0 0 0).segSet = 0
      ∧ (p 0 0 1 (2 ^ 127)).segSet.getLsbD 127 = true ∧ (s 1).segs[(127 : SegIdx)].valid = false
      ∧ (s 1).segs[(0 : SegIdx)].valid = true := by
  decide

/-- The only segment of that set is valid. -/
theorem test_meets_OpenExposureSegments :
    ∀ i : SegIdx, (1#128).getLsbD i.1 = true → (awaiting .openExposure 1).segs[i].valid = true := by
  intro i hi
  have : i.1 = 0 := by
    simp only [BitVec.getLsbD_one] at hi
    simpa using hi
  have : i = 0 := Fin.ext this
  subst this
  rfl

/-- An exposure whose segment has ended it and whose pixel is outstanding, in a ledger that balances. -/
theorem test_meets_CloseExposureOfADrainingOne :
    let e : Exposure := { expo with
      state := .draining, ended := 1, outcome := some { cut := false, degraded := false }, timer := none }
    let s : State := { awaiting .closeExposure 9 with queue := [e], progress := State.reset.progress }
    s.Running ∧ s.LedgerBalances ∧ s.Awaits { code := .closeExposure, tag := 0x55, arg := 9 } 0
      ∧ e ∈ s.queue ∧ e.id = (9#16).toNat ∧ e.state = .draining := by
  refine ⟨by decide, ⟨by decide, ?_, by decide, by decide, by decide⟩, by decide, by decide, by decide, by decide⟩
  simp only [List.mem_singleton, forall_eq, Exposure.InOrder]
  decide

/-- An id that is not queued, and a queued one that is READING. -/
theorem test_meets_CloseExposureCutsOrRefuses :
    (awaiting .closeExposure 9).Running ∧ (awaiting .closeExposure 9).LedgerBalances
      ∧ (awaiting .closeExposure 9).Awaits { code := .closeExposure, tag := 0x55, arg := 9 } 0
      ∧ (∀ e ∈ (awaiting .closeExposure 8).queue, e.id ≠ (8#16).toNat)
      ∧ expo ∈ (awaiting .closeExposure 9).queue ∧ expo.id = (9#16).toNat ∧ expo.state = .reading :=
  ⟨by decide, ⟨test_busy_ledger.1, test_busy_ledger.2.1, by decide, test_busy_progress, by decide⟩, by decide, by decide,
    by decide, by decide, by decide⟩

/-- Slot 1 EMPTY with parameters at the edge of each check, and regions that meet and that only touch. -/
theorem test_meets_OpenStackIsCheckedAndAccepted :
    let s := awaiting .openStack 1
    let p (cellBase outputBase width height Nrej : Nat) : StackParams :=
      { cellBase := cellBase, outputBase := outputBase, width := width, height := height, Nrej := Nrej }
    s.Running ∧ s.Awaits { code := .openStack, tag := 0x55, arg := 1 } 0 ∧ (1#16).toNat = StackSlot.one.number
      ∧ 1 < (2#16).toNat ∧ (s.stack .one).state ∈ [StackState.empty, .rendered]
      ∧ (s.stack .zero).state ∈ [StackState.clearing, .openState, .rendering]
      ∧ (stackParams (block 16 0)).cellBase % 32 ≠ 0 ∧ (stackParams (block 0x100000000000000000 0)).outputBase % 32 ≠ 0
      ∧ s.overlapDetail .one (p 0x70000000 0x70000020 8 1 0) = some 1
      ∧ s.overlapDetail .one (p 0x501FFFE0 0x70000000 8 1 0) = some 2
      ∧ s.overlapDetail .one (p 0xFFE0 0x70000000 8 1 0) = some 3
      ∧ s.overlapDetail .one (p 0x40003060 0x70000000 8 1 0) = some 256 := by
  decide

/-- Regions that meet nothing. -/
theorem test_meets_OpenStackWithoutOverlap :
    (awaiting .openStack 1).overlapDetail .one
      { cellBase := 2 ^ 40 - 64, outputBase := 0x70000000, width := 8, height := 1, Nrej := 63 } = none := by
  decide

theorem test_meets_RenderStackIsCheckedAndAccepted :
    let s := awaiting .renderStack 0
    s.Running ∧ s.Awaits { code := .renderStack, tag := 0x55, arg := 0 } 0 ∧ 1 < (2#16).toNat
      ∧ (0#16).toNat = StackSlot.zero.number ∧ (s.stack .zero).state = .openState ∧ 0 < (s.stack .zero).refCount
      ∧ (s.stack .one).state ≠ .openState
      ∧ (({ s with stack0 := { openStack with refCount := 0 } }).stack .zero).refCount = 0 := by
  decide

/-- A stack in use, one whose sweep has a transfer in flight, and one whose sweep has none; and the termination that is
awaited. -/
theorem test_meets_DiscardStackStopsItsSweep :
    let s := awaiting .discardStack 0
    let r : StackRecord := { openStack with state := .rendering, refCount := 0 }
    let w : SweepWork := { slot := .zero, line := 0, step := .renderRead0 }
    let idle : State := { s with stack0 := r, sweep := some w }
    let fly : State := { idle with inFlight := [flying (.renderRead .zero) 0 true, flying .command 0x60 true] }
    let gone : State := { busy with
      engine := commanded .discardStack 0 (.discarding 3), inFlight := [flying (.renderRead .zero) 0 false] }
    s.Running ∧ s.Awaits { code := .discardStack, tag := 0x55, arg := 0 } 0 ∧ 0 < (s.stack .zero).refCount
      ∧ (idle.stack .zero).refCount = 0 ∧ idle.commandLanded.inFlight.any (fun f => f.live && f.owner.sweepOf .zero) = false
      ∧ idle.sweep = some w ∧ w.slot = .zero
      ∧ fly.commandLanded.inFlight.any (fun f => f.live && f.owner.sweepOf .zero) = true
      ∧ fly.Awaits { code := .discardStack, tag := 0x55, arg := 0 } 0
      ∧ gone.Running ∧ gone.inFlight.find? (fun x => x.owner.isRenderRead) = some (flying (.renderRead .zero) 0 false)
      ∧ gone.sweep = none := by
  decide

/-- Arguments, slots and coordinates at the edge of each check. -/
theorem test_meets_SetWatchIsCheckedAndReplaces :
    let s := awaiting .setWatch 3
    let p (slot x y : Nat) :=
      watchParams (block (BitVec.ofNat 256 (placeAt 1 1 slot + placeAt 2 2 x + placeAt 4 2 y)) 0)
    s.Running ∧ s.Awaits { code := .setWatch, tag := 0x55, arg := 3 } 0 ∧ (3#16).toNat ≤ 3 ∧ 3 < (4#16).toNat
      ∧ 1 < (p 2 0 0).slot ∧ (p 1 0 0).slot = StackSlot.one.number
      ∧ (16384 ≤ (p 1 16384 0).x ∧ (p 1 16384 0).x ≤ 0xBFFF) ∧ (16384 ≤ (p 1 0 0xBFFF).y ∧ (p 1 0 0xBFFF).y ≤ 0xBFFF)
      ∧ ¬ (16384 ≤ (p 1 16383 0xC000).x ∧ (p 1 16383 0xC000).x ≤ 0xBFFF)
      ∧ ¬ (16384 ≤ (p 1 16383 0xC000).y ∧ (p 1 16383 0xC000).y ≤ 0xBFFF) := by
  decide

theorem test_meets_SetEnablesAndReport :
    (awaiting .setEnables 0xFFFF).Running
      ∧ (awaiting .setEnables 0xFFFF).Awaits { code := .setEnables, tag := 0x55, arg := 0xFFFF } 0
      ∧ (awaiting .report 0).Running ∧ (awaiting .report 0).Awaits { code := .report, tag := 0x55, arg := 0 } 0 := by
  decide

/-- A RESTART that takes effect, with a sweep transfer presented and without; one that ends, a lock opened in its drain; and
one that waits. -/
theorem test_meets_RestartTakesEffectAndEnds :
    let s : State := { busy with
      engine := commanded .restart 0 .draining, current := some { transfer := at_ 0 .word .lockedRead, stage := .forwarding }
      lock := some { initiator := 0, line := 0 }, lockState := .draining }
    (awaiting .restart 0).Running ∧ (awaiting .restart 0).Awaits { code := .restart, tag := 0x55, arg := 0 } 0
      ∧ ({ awaiting .restart 0 with sweep := some { slot := .zero, line := 0, step := .clear } }).Awaits
          { code := .restart, tag := 0x55, arg := 0 } 0
      ∧ s.Running ∧ s.engine = .executing { code := .restart, tag := 0x55, arg := 0 } .draining ∧ s.inFlight = []
      ∧ ({ s with inFlight := [flying .status 0x100 false] }).inFlight ≠ [] := by
  decide

/-- A queue with and without an exposure; a record's first and second line, at record 126 and at record 127, that fails
and that passes. -/
theorem test_meets_LoadPlanBeginsAndChecks :
    let s (i : SegIdx) (first : Option Line) : State := { State.reset with
      engine := commanded .loadPlan 0 (.planCheck i first []), inFlight := [flying .command 0x1000 true] }
    (awaiting .loadPlan 0).Running ∧ (awaiting .loadPlan 0).Awaits { code := .loadPlan, tag := 0x55, arg := 0 } 0
      ∧ (awaiting .loadPlan 0).queue ≠ [] ∧ ({ awaiting .loadPlan 0 with queue := [] }).queue = []
      ∧ (s 126 none).Running ∧ (s 126 none).inFlightFor .command = true
      ∧ (s 127 (some 0)).engine
          = .executing { code := .loadPlan, tag := 0x55, arg := 0 } (.planCheck 127 (some 0) [])
      ∧ State.reset.recordPasses (segRecordOf (block 1 0)) [] = false
      ∧ State.reset.recordPasses (segRecordOf (block 0 0)) [] = true := by
  decide

/-- Segment 17 passes, but not over the control area, over a window already passed, or with its window short by a
pixel. -/
theorem test_meets_RecordPassesItsChecks :
    let r := { seg17 with biasSeed := 1048560 }
    busy.recordPasses r [] = true ∧ busy.recordPasses r [(0x4000307C, 4)] = false
      ∧ busy.recordPasses r [(0x40003080, 4)] = true ∧ busy.recordPasses { r with rawBase := 0xF000 } [] = false
      ∧ busy.recordPasses { r with rawLimit := 115 } [] = false ∧ busy.recordPasses { r with rawLimit := 119 } [] = true := by
  decide

theorem test_meets_PlanInstallReadTermination :
    let s (i : SegIdx) (first : Option Line) : State := { State.reset with
      engine := commanded .loadPlan 0 (.planInstall i first), inFlight := [flying .command 0x1000 true] }
    (s 0 none).Running ∧ (s 0 none).inFlightFor .command = true
      ∧ (s 126 (some 1)).engine = .executing { code := .loadPlan, tag := 0x55, arg := 0 } (.planInstall 126 (some 1))
      ∧ (s 127 (some 1)).engine = .executing { code := .loadPlan, tag := 0x55, arg := 0 } (.planInstall 127 (some 1))
      ∧ (segRecordOf (block 1 0)).valid = true := by
  decide

/-- `busy`, with a command in front, meets every invariant. -/
theorem test_meets_StepKeeps :
    let s : State := { busy with pending := [.calibratePixel] }
    s.Settled ∧ s.LockAgrees ∧ s.WithinCapacity ∧ s.LedgerBalances ∧ s.ReferencesAgree ∧ s.PlacementInOrder := by
  refine ⟨by decide, ⟨by decide, by decide⟩, ⟨by decide, by decide, by decide, by decide, by decide⟩,
    ⟨test_busy_ledger.1, test_busy_ledger.2.1, by decide, test_busy_progress, by decide⟩, ⟨?_, ?_, by simp [busy, State.reset,
      State.released, State.pinReset]⟩, ⟨by decide, by decide, by decide, ?_, ?_⟩⟩
  · intro k; cases k <;> decide
  · intro k; cases k <;> decide
  · rintro tag (h | ⟨f, h, -⟩) <;> simp [busy, State.reset, State.released, State.pinReset] at h
  · intro e h; simp [busy, State.reset, State.released, State.pinReset] at h

/-! ### One step at a time -/

/-- R132: a BYTE write into a raw window. -/
theorem test_step_byte_raw_write_is_malformed :
    let u := next (exec (.cameraTransfer (at_ 0x40003001 .byte (.write 7))) busy)
    u.answers = [(at_ 0x40003001 .byte (.write 7), .fault)] ∧ u.flags = 0x0008#15 ∧ u.counter .malformedRaw = 1
      ∧ u.rewriteCount = 2 := by
  decide

/-- R134, R135: a LINE write of the command-word line. -/
theorem test_step_control_line_is_split :
    (next (exec (.cameraTransfer (at_ 0 .line (.write 0xA))) busy)).answers = [(at_ 0 .line (.write 0xA), .split)] := by
  decide

/-- R157: code 11 ends at once with its detail. -/
theorem test_step_bad_command :
    let u := next (exec (.badCommand 6 11 0x21 0) busy)
    u.last = { tag := 0x21, code := 11, result := .badCommand, detail := 11 } ∧ u.flags = 0x4000#15
      ∧ u.current = some { transfer := busy.controlWrite 6 0 0x0000210B, stage := .forwarding } := by
  decide

/-- 10, "a request during a rewrite, and a fault": the abandoned rewrite 42 and the pending one. -/
theorem test_step_status_write_fault :
    let s : State := { busy with
      rewriteCount := 42, rewrite := some 31, mark := true, inFlight := [flying .status 0x4C0 true] }
    let u := next (exec (.statusWriteDone .fault) s)
    u.rewriteCount = 43 ∧ u.rewrite = some 0 ∧ u.mark = true ∧ u.flags = 0x0004#15 ∧ u.counter .memoryFaults = 1 := by
  decide

/-- 05, "a cell at full depth": an overflowed and a degraded placed lane, written DONE. -/
theorem test_step_placement_write :
    let w : Entry := entry 4 (.writing 0 [(9, .overflow), (9, .placed true)])
    let g : InFlight := { owner := .placement 4, transfer := ownWrite 0x50000000 .line 0 (some 12), live := true }
    let e : Exposure := { expo with outstanding := 2, tallies := { Tallies.zero with taken := 2 } }
    let u := next (exec (.placementWriteDone 4 (.done 0)) { busy with entries := [w], inFlight := [g], queue := [e] })
    u.queue.map (·.tallies) = [{ Tallies.zero with taken := 2, placed := 1, overflow := 1, degraded := 1 }]
      ∧ u.entries = [] ∧ u.flags = 0x0080#15 ∧ u.counter .depthOverflows = 1 := by
  decide

/-- R28: on an empty queue a timer of 1 counts down to 0, and the next step takes the expiry before a further millisecond
passes for the exposure behind it. -/
theorem test_step_stall_expiry_in_time :
    let e : Exposure := { expo with timer := some 1, stallTimeout := 5, outstanding := 1 }
    let d : Exposure := { e with id := 10, timer := some 3 }
    let u := next (step { busy with queue := [e, d] })
    let v := next (step u)
    u.queue.map (fun x => (x.state, x.timer)) = [(.reading, some 0), (.reading, some 2)]
      ∧ v.queue.map (fun x => (x.state, x.timer)) = [(.draining, none), (.reading, some 2)] := by
  decide

/-- 02, 2.7: 410 drains at the head with 411 DONE behind it. Both retire, and the second request becomes the pending
rewrite; one retirement leaves the mark clear. -/
theorem test_step_two_retirements :
    let e : Exposure := { expo with id := 410, state := .draining, ended := 1, outcome := some { cut := false, degraded := false } }
    let d : Exposure := { e with id := 411, state := .done, outstanding := 0 }
    let c : Contribution := { contribution with exposure := 410 }
    let w : Entry := { entry 4 (.writing 0 [(410, .placed true)]) with lanes := (Vector.replicate 4 none).set 1 (some c) }
    let g : InFlight := { owner := .placement 4, transfer := ownWrite 0x50000000 .line 0 (some 2), live := true }
    let s (q : List Exposure) : State := { busy with
      entries := [w], inFlight := [g], queue := q, progress := State.reset.progress, stack0 := { openStack with refCount := 2 } }
    let u := next (exec (.placementWriteDone 4 (.done 0)) (s [e, d]))
    let v := next (exec (.placementWriteDone 4 (.done 0)) (s [e]))
    u.queue = [] ∧ u.retired.map (·.id) = [411, 410] ∧ u.stack0.refCount = 0 ∧ u.flags = 0x0800#15
      ∧ (u.rewriteCount, u.rewrite, u.mark, u.retirements) = (2, some 0, true, 0)
      ∧ v.retired.map (·.id) = [410] ∧ (v.rewriteCount, v.rewrite, v.mark) = (2, some 0, false) := by
  decide

/-- R60: a decided slot without a copy waits behind an older one whose copy waits; with that copy HANDED both leave. -/
theorem test_slots_leave_in_order :
    let a : IntakeSlot := { slot with flats := [], cursor := 1 }
    let b : IntakeSlot := { a with tag := 4, copy := .none }
    (State.settleIntake { busy with intake := [a, b] }).intake.map (fun x => x.tag) = [3, 4]
      ∧ (State.settleIntake { busy with intake := [{ a with copy := .handed }, b] }).intake = [] := by
  decide

/-- 06, "a clear sweep with a fault": L6 of stack 1. -/
theorem test_step_clear_write_fault :
    let r : StackRecord := { openStack with state := .clearing, width := 16, height := 3, cursor := 1, refCount := 0 }
    let s : State := { busy with
      stack1 := r, sweep := some { slot := .one, line := 2, step := .clear }
      inFlight := [flying (.clear .one) 0x500000C0 true] }
    let u := next (exec (.clearWriteDone .fault) s)
    u.stack1 = { r with state := .empty } ∧ u.sweep = none ∧ u.flags = 0x0003#15 ∧ u.counter .memoryFaults = 1 := by
  decide

/-- 09, "alternation and the sweep guarantee", grant 6: the sweep goes before the report writer. -/
theorem test_step_sweep_guarantee :
    let s : State := { busy with
      current := some { transfer := at_ 0x100 .word (.write 1), stage := .forwarding }, turn := .internal, rewrite := some 5
      sweepWait := 15, sweep := some { slot := .zero, line := 0, step := .renderRead0 } }
    let u := next (exec .arbiterGrant s)
    u.inFlight.map (·.owner) = [.renderRead .zero] ∧ u.turn = .forward ∧ u.sweepWait = 0 := by
  decide

/-- 07, "a column watch": the first hit is kept, the count rises, and the flag is set. -/
theorem test_step_watch_hit :
    let w : WatchEntry :=
      { enabled := true, stackSlot := .zero, x := 6068, y := 0xFFFF, threshold := 3000
        hit := some { exposure := 410, x := 6068, y := 4, value := .add 3126 }, hitCount := 2 }
    let s : State := { busy with watch := busy.watch.set 2 w }
    let u := s.watchCompare { kind := .add 3000 true, exposure := 411, stackSlot := .zero, x := 6068, y := 4 }
    u.watch[(2 : Fin 4)] = { w with hitCount := 3 } ∧ u.watch[(1 : Fin 4)] = WatchEntry.reset ∧ u.flags = 0x0400#15 := by
  decide

/-- 03, "a short row and no rejection", the last two pixels: they complete the row and the frame. -/
theorem test_step_raw_write :
    let s : State := { busy with
      progress := busy.progress.set 0
        { state := .reading 9, count := 58, B := 16000, acc := some { row := 3, sum := 2005, n := 2, max := 1003 } } }
    let u := next (exec (.rawWrite 0 0x40003074 .word (BitVec.ofNat 256 (1001 + 65536 * 1010))) s)
    u.progress[(0 : SegIdx)] = { state := .idle, count := 0, B := 16016, acc := none }
      ∧ u.queue.map (fun e => (e.state, e.ended, e.outstanding)) = [(.draining, 1, 1)] := by
  decide

end Sys2Proof.Tests
end

section
/-! The records of LOAD_PLAN: their layout in memory (R176), and what passes pass 1 (R1 to R4). Settles O52. -/

namespace Sys2Proof.Machine

/-! ### The layout of a record (R176) -/

/-- The bytes of a structure, as a quotient and a remainder. -/
theorem bytesAt_eq (n off size : Nat) : bytesAt n off size = n / 2 ^ (8 * off) % 2 ^ (8 * size) := by
  rw [bytesAt, Nat.shiftRight_eq_div_pow]

/-- Two lines read as one structure, the first the lower (R158). -/
theorem block_eq (first second : Line) : block first second = first.toNat + 2 ^ 256 * second.toNat := by
  rw [block, BitVec.toNat_append, ← Nat.shiftLeft_add_eq_or_of_lt first.isLt, Nat.shiftLeft_eq]
  omega

/-- A field of the structure that two lines hold. -/
theorem bytesAt_block (first second : Line) (off size : Nat) :
    bytesAt (block first second) off size = blockField first second off size := by
  rw [bytesAt_eq, block_eq]

/-- A bit of the lowest byte. -/
theorem testBit_eq_bit_of_byte (b : Nat) {j : Nat} (hj : j < 8) :
    b.testBit j = (bytesAt b 0 1 / 2 ^ j % 2 == 1) := by
  have hlow : bytesAt b 0 1 = b % 2 ^ 8 := by simp [bytesAt_eq]
  calc b.testBit j = (b % 2 ^ 8).testBit j := by rw [Nat.testBit_mod_two_pow]; simp [hj]
    _ = (bytesAt b 0 1 / 2 ^ j % 2 == 1) := by rw [hlow, Nat.testBit_eq_decide_div_mod_eq]; rfl

/-- A record read from two lines is the one they lay out. -/
theorem segRecordOf_laidOut (first second : Line) :
    RecordLaidOut first second (segRecordOf (block first second)) := by
  simp only [RecordLaidOut, segRecordOf, ← bytesAt_block, testBit_eq_bit_of_byte _ (by decide : 0 < 8),
    testBit_eq_bit_of_byte _ (by decide : 1 < 8), testBit_eq_bit_of_byte _ (by decide : 2 < 8),
    testBit_eq_bit_of_byte _ (by decide : 3 < 8)]

/-! ### The checks of pass 1 (R1 to R4) -/

/-- Two regions overlap exactly when a byte lies in both (00_scope.md). -/
theorem overlaps_iff (a la b lb : Nat) :
    overlaps a la b lb = true ↔ ∃ x, a ≤ x ∧ x < a + la ∧ b ≤ x ∧ x < b + lb := by
  rw [overlaps, decide_eq_true_iff]
  constructor
  · intro h
    exact ⟨max a b, by omega⟩
  · rintro ⟨x, ha, hla, hb, hlb⟩
    omega

/-- Two regions are clear of one another exactly when no byte lies in both. -/
theorem overlaps_eq_false_iff (a la b lb : Nat) :
    overlaps a la b lb = false ↔ ¬ ∃ x, a ≤ x ∧ x < a + la ∧ b ≤ x ∧ x < b + lb := by
  rw [← overlaps_iff, Bool.not_eq_true]

/-- The order of the two regions does not matter. -/
theorem overlaps_comm (a la b lb : Nat) : overlaps a la b lb = overlaps b lb a la := by
  simp only [overlaps, max_comm, min_comm]

/-- The size of a window follows the unit of its limit (R2). -/
theorem windowSize_eq (r : SegRecord) :
    r.windowSize = if r.granularity = .byte then r.rawLimit + 1 else (r.rawLimit + 1) * 4096 := by
  cases h : r.granularity <;> simp [SegRecord.windowSize, h]

/-- Every field within its range (R1). -/
theorem fieldsInRange_iff (r : SegRecord) :
    r.fieldsInRange = true ↔
      r.rawBase < 2 ^ 40 ∧ r.rawBase % 4096 = 0 ∧ r.rawLimit ≤ 1048575 ∧ (∀ n, r.writer = .only n → n ≤ 7)
        ∧ r.prescan ≤ 255 ∧ 8 ≤ r.W ∧ r.W ≤ 8192 ∧ r.ov ≤ 64 ∧ 1 ≤ r.H ∧ r.H ≤ 8192
        ∧ (r.K = 1 ∨ r.K = 2 ∨ r.K = 4 ∨ r.K = 8) ∧ 1 ≤ r.S ∧ r.S ≤ 65535 ∧ 1 ≤ r.G ∧ r.G ≤ 65535
        ∧ r.biasSeed ≤ 1048560 ∧ r.k ≤ 7 ∧ (∀ a, r.flatBase = some a → a < 2 ^ 40 ∧ a % 32 = 0)
        ∧ r.X0 ≤ 16383 ∧ r.Y0 ≤ 16383 ∧ r.orientation ≤ 7 := by
  cases hw : r.writer <;> cases hf : r.flatBase <;>
    simp only [SegRecord.fieldsInRange, hw, hf, Bool.and_eq_true, Bool.or_eq_true, decide_eq_true_eq, beq_iff_eq,
      and_assoc, or_assoc] <;>
    simp [Config.addressSpace, and_assoc]

/-- The checks of R3: the fields, then the geometry. -/
theorem passesR3_iff (r : SegRecord) :
    r.passesR3 = true ↔ r.fieldsInRange = true
      ∧ (r.granularity = .byte → (r.rawLimit + 1) % 4 = 0) ∧ r.W % r.K = 0
      ∧ 2 * ((r.prescan + r.W + r.ov) * r.H) ≤ r.windowSize ∧ r.rawBase + r.windowSize ≤ 2 ^ 40
      ∧ ∀ a, r.flatBase = some a → a + 2 * r.W * r.H ≤ 2 ^ 40 := by
  cases hg : r.granularity <;> cases hf : r.flatBase <;>
    simp only [SegRecord.passesR3, hg, hf, Bool.and_eq_true, decide_eq_true_eq, beq_iff_eq, and_assoc] <;>
    simp [Config.addressSpace, SegRecord.extent, SegRecord.rowlen]

/-- A region is clear of a stack that is EMPTY, and of one whose two regions it does not meet. -/
theorem regionsOverlap_eq_false_iff (k : StackRecord) (base size : Nat) :
    k.regionsOverlap base size = false ↔
      (k.state ≠ .empty →
        overlaps base size k.cellBase (k.width * k.height * 8) = false
          ∧ overlaps base size k.outputBase (k.width * k.height * 4) = false) := by
  rw [StackRecord.regionsOverlap, overlaps_comm k.cellBase, overlaps_comm k.outputBase]
  by_cases h : k.state = .empty <;> simp [h, StackRecord.cellSize, StackRecord.outputSize]

/-- The window is clear of the windows passed, of the control area and of the stacks' regions (R4). -/
theorem windowOverlaps_eq_false_iff (s : State) (r : SegRecord) (windows : List (Nat × Nat)) :
    s.windowOverlaps r windows = false ↔
      (∀ w ∈ windows, overlaps r.rawBase r.windowSize w.1 w.2 = false)
        ∧ overlaps r.rawBase r.windowSize (s.base.toNat * 0x08000000) 65536 = false
        ∧ ∀ k, (s.stack k).state ≠ .empty →
          overlaps r.rawBase r.windowSize (s.stack k).cellBase ((s.stack k).width * (s.stack k).height * 8) = false
            ∧ overlaps r.rawBase r.windowSize (s.stack k).outputBase
                ((s.stack k).width * (s.stack k).height * 4) = false := by
  have hstacks : (s.stack0.regionsOverlap r.rawBase r.windowSize = false
        ∧ s.stack1.regionsOverlap r.rawBase r.windowSize = false)
      ↔ ∀ k, (s.stack k).regionsOverlap r.rawBase r.windowSize = false := by
    constructor
    · rintro ⟨h0, h1⟩ (_ | _)
      · exact h0
      · exact h1
    · exact fun h => ⟨h .zero, h .one⟩
  simp only [← regionsOverlap_eq_false_iff]
  rw [← hstacks]
  simp only [State.windowOverlaps, Bool.or_eq_false_iff, List.any_eq_false, and_assoc, Bool.not_eq_true,
    State.controlBase, Config.controlAreaStep, Config.controlAreaSize]

/-- A record passes unless it is valid and fails R3 or R4. -/
theorem recordPasses_iff (s : State) (r : SegRecord) (windows : List (Nat × Nat)) :
    s.recordPasses r windows = true
      ↔ (r.valid = true → r.passesR3 = true ∧ s.windowOverlaps r windows = false) := by
  cases h : r.valid <;> simp [State.recordPasses, h]

/-- Settles O52: the checks of R3 and of R4, each by its own equivalence. -/
theorem recordPassesItsChecks : Obligations.RecordPassesItsChecks := by
  intro r windows s
  rw [recordPasses_iff, passesR3_iff, fieldsInRange_iff, windowOverlaps_eq_false_iff]
  simp only [overlaps_eq_false_iff, windowSize_eq, and_assoc]

end Sys2Proof.Machine
end

section
/-! The steps of the command engine at LOAD_PLAN's begin and in its pass 1 (R5, R6, R9), and how a command's step
ends (R154, R161). Settles O51. -/

namespace Sys2Proof.Machine

/-! ### The end of a command's step (R161, R172) -/

/-- The landing of a transfer leaves the part settled. -/
theorem commandLanded_settled {s : State} (hs : s.Settled) : s.commandLanded.Settled := hs

/-- A step that requests nothing reaches the state it makes. -/
theorem next_settleRequests {u : State} (hu : u.Settled) :
    (.next u.settleRequests : Host.Outcome State Fault Refusal) = .next u := by
  obtain ⟨hreq, hret, -⟩ := hu
  rw [settleRequests_of_quiet hreq hret]

/-- The end of a command sets COMMAND_DONE, the attention line following. -/
theorem finish_flagsSet (c : CurrentCommand) (r : ResultCode) (d : Nat) {w : State}
    (ha : w.attn = attention w.flags w.enables) : FlagsSet [.commandDone] w (w.finish c r d) := by
  rw [State.finish, endCommand_eq _ _ r d w ha]
  exact ⟨rfl, rfl⟩

/-- A command ends in its step, whatever the step has requested before: the result recorded, COMMAND_DONE set, and one
rewrite requested. -/
theorem finish_settleRequests (c : CurrentCommand) (r : ResultCode) (d : Nat) {w : State} (hr : w.retirements = 0)
    (ha : w.attn = attention w.flags w.enables) :
    let u := (w.finish c r d).settleRequests
    u = { w with
      last := { tag := c.tag, code := BitVec.ofNat 8 c.code.number, result := r, detail := d }, engine := .idle
      flags := u.flags, attn := u.attn, rewriteCount := u.rewriteCount, rewrite := u.rewrite, mark := u.mark
      requested := false, retirements := 0 }
      ∧ FlagsSet [.commandDone] w u ∧ RewritesAfter 1 w u := by
  have hfin : w.finish c r d = _ := endCommand_eq _ _ r d w ha
  have hreq : (w.finish c r d).requests = 1 := by rw [hfin]; simp [State.requests, hr]
  refine ⟨?_, ?_, ?_⟩
  · simp only [settleRequests_flags, settleRequests_attn]
    rw [settleRequests_frame, settleRequests_requested, settleRequests_retirements, hfin]
  · simpa only [FlagsSet, settleRequests_flags, settleRequests_attn, settleRequests_enables]
      using finish_flagsSet c r d ha
  · have h := settleRequests_rewritesAfter (s := w) (v := w.finish c r d) (by simp) (by simp) (by simp)
    rwa [hreq] at h

/-- A command that ends with nothing but its result recorded. -/
theorem finish_endedWith (c : CurrentCommand) (r : ResultCode) (d : Nat) {v : State} (hv : v.Settled) :
    EndedWith (BitVec.ofNat 8 c.code.number) c.tag r d v (v.finish c r d).settleRequests := by
  obtain ⟨hreq, hret, ha⟩ := hv
  obtain ⟨heq, hflags, hrewrite⟩ := finish_settleRequests c r d hret ha
  exact ⟨heq.trans (by simp only [hreq, hret]), hflags, hrewrite⟩

/-- A command that a fault of its own read ends (R9, R154, R158): MEMORY_FAULT and COMMAND_DONE set, the fault counted, and
one rewrite requested. -/
def EndedByFault (c : CurrentCommand) (r : ResultCode) (d : Nat) (v u : State) : Prop :=
  u = { v with
    last := { tag := c.tag, code := BitVec.ofNat 8 c.code.number, result := r, detail := d }, engine := .idle
    flags := u.flags, attn := u.attn, counters := u.counters, rewrite := u.rewrite, rewriteCount := u.rewriteCount
    mark := u.mark }
    ∧ FlagsSet [.memoryFault, .commandDone] v u ∧ CountersRaised [.memoryFaults] v u ∧ RewriteAfter true v u

/-- A memory fault of the part's own sets its flag. -/
theorem memoryFault_flags {v : State} (ha : v.attn = attention v.flags v.enables) :
    v.memoryFault.flags = v.flags ||| Flag.mask .memoryFault := by
  rw [State.memoryFault, bump_flags, setFlag_eq _ _ ha]

/-- The attention line follows the flags over a memory fault. -/
theorem memoryFault_attn {v : State} (ha : v.attn = attention v.flags v.enables) :
    v.memoryFault.attn = attention v.memoryFault.flags v.memoryFault.enables := by
  rw [State.memoryFault, bump_attn, bump_flags, bump_enables, setFlag_eq _ _ ha]

/-- A memory fault raises its own counter alone. -/
theorem memoryFault_countersRaised (v : State) : CountersRaised [.memoryFaults] v v.memoryFault := by
  intro k
  have hkeep : ∀ k, (v.setFlag .memoryFault).counter k = v.counter k := by simp [State.counter]
  simp only [State.memoryFault, counter_bump, hkeep, List.mem_singleton]
  split
  · next h => rw [h]
  · rfl

/-- The end of a command in the step of its fault. -/
theorem finish_memoryFault_endedByFault (c : CurrentCommand) (r : ResultCode) (d : Nat) {v : State} (hv : v.Settled) :
    EndedByFault c r d v (v.memoryFault.finish c r d).settleRequests := by
  obtain ⟨hreq, hret, ha⟩ := hv
  obtain ⟨heq, ⟨hflags, hattn⟩, hrewrite⟩ :=
    finish_settleRequests c r d (w := v.memoryFault) (by simpa using hret) (memoryFault_attn ha)
  refine ⟨heq.trans (by simp [hreq, hret]), ⟨?_, hattn⟩, fun k => ?_, ?_⟩
  · rw [hflags, memoryFault_flags ha]
    rfl
  · simpa only [State.counter, settleRequests_counters, finish_counters] using memoryFault_countersRaised v k
  · change RewritesAfter 1 v _
    simpa only [RewritesAfter, memoryFault_rewrite, memoryFault_rewriteCount, memoryFault_mark] using hrewrite

/-! ### The begin of LOAD_PLAN (R5) -/

/-- The step of a parameter read. -/
theorem exec_parameterReadDone (result : Termination) (s : State) :
    exec (.parameterReadDone result) s = execParameterReadDone result s := rfl

/-- The second read of the parameter block hands the command to its owner (R158). -/
theorem exec_parameterReadDone_second {s : State} {c : CurrentCommand} {first : Line} (second : Line) (hs : s.Running)
    (ha : s.Awaits c first) :
    exec (.parameterReadDone (.done second)) s
      = .next (s.commandLanded.handOver c (block first second)).settleRequests := by
  obtain ⟨heng, hfly⟩ := ha
  rw [exec_parameterReadDone, execParameterReadDone, act_of_released hs.1]
  simp only [heng, hfly]

/-- LOAD_PLAN ends with nothing but its result recorded. -/
theorem loadPlan_endedWith {c : CurrentCommand} (hc : c.code = .loadPlan) (r : ResultCode) (d : Nat) {v : State}
    (hv : v.Settled) : EndedWith 1 c.tag r d v (v.finish c r d).settleRequests := by
  have hend := finish_endedWith c r d hv
  rwa [hc] at hend

/-- LOAD_PLAN begins, or ends IN_USE behind a queued exposure. -/
theorem loadPlan_begins {s : State} {c : CurrentCommand} {first : Line} (second : Line) (hs : s.Running)
    (ha : s.Awaits c first) (hc : c.code = .loadPlan) :
    (s.queue ≠ [] →
        ∃ u, exec (.parameterReadDone (.done second)) s = .next u ∧ EndedWith 1 c.tag .inUse 0 s.commandLanded u)
      ∧ (s.queue = [] →
        exec (.parameterReadDone (.done second)) s
          = .next { s.commandLanded with engine := .executing c (.planCheck 0 none []) }) := by
  have hv := commandLanded_settled hs.2
  have hexec := exec_parameterReadDone_second second hs ha
  simp only [State.handOver, hc, State.runLoadPlan, land_queue, List.isEmpty_iff] at hexec
  constructor
  · intro hq
    rw [if_neg hq] at hexec
    exact ⟨_, hexec, loadPlan_endedWith hc .inUse 0 hv⟩
  · intro hq
    rw [if_pos hq] at hexec
    exact hexec.trans (next_settleRequests hv)

/-! ### Pass 1 of LOAD_PLAN (R6) -/

/-- The step of a read of pass 1. -/
theorem exec_planCheckReadDone (result : Termination) (s : State) :
    exec (.planCheckReadDone result) s = execPlanCheckReadDone result s := rfl

/-- The first line of a record in pass 1 is kept. -/
theorem exec_planCheckReadDone_first {s : State} {c : CurrentCommand} {i : SegIdx} {windows : List (Nat × Nat)}
    (line : Line) (hs : s.Running) (heng : s.engine = .executing c (.planCheck i none windows))
    (hfly : s.inFlightFor .command = true) :
    exec (.planCheckReadDone (.done line)) s
      = .next { s.commandLanded with engine := .executing c (.planCheck i (some line) windows) } := by
  rw [exec_planCheckReadDone, execPlanCheckReadDone, act_of_released hs.1]
  simp only [heng, hfly]
  exact next_settleRequests (commandLanded_settled hs.2)

/-- The second line of a record in pass 1 has it checked. -/
theorem exec_planCheckReadDone_second {s : State} {c : CurrentCommand} {i : SegIdx} {first : Line}
    {windows : List (Nat × Nat)} (line : Line) (hs : s.Running)
    (heng : s.engine = .executing c (.planCheck i (some first) windows)) (hfly : s.inFlightFor .command = true) :
    exec (.planCheckReadDone (.done line)) s
      = .next (s.commandLanded.checkRecord c i (segRecordOf (block first line)) windows).settleRequests := by
  rw [exec_planCheckReadDone, execPlanCheckReadDone, act_of_released hs.1]
  simp only [heng, hfly]

/-- A fault of a read of pass 1 ends the command, with the record's index (R9). -/
theorem exec_planCheckReadDone_fault {s : State} {c : CurrentCommand} {i : SegIdx} {first : Option Line}
    {windows : List (Nat × Nat)} (hs : s.Running) (heng : s.engine = .executing c (.planCheck i first windows))
    (hfly : s.inFlightFor .command = true) :
    exec (.planCheckReadDone .fault) s
      = .next (s.commandLanded.memoryFault.finish c .planReadFault i.1).settleRequests := by
  rw [exec_planCheckReadDone, execPlanCheckReadDone, act_of_released hs.1]
  simp only [heng, hfly]

/-- The start of pass 2 changes the engine, the segment table and the progress records alone. -/
theorem startPass2_frame (c : CurrentCommand) (s : State) :
    s.startPass2 c = { s with
      engine := .executing c (.planInstall 0 none), segs := (s.startPass2 c).segs
      progress := (s.startPass2 c).progress } := by
  simp only [State.startPass2, State.clearPlan]

/-- The start of pass 2, and PLAN_LOST, leave every record invalid and every progress record as after a reset. -/
theorem clearPlan_at (s : State) (j : SegIdx) :
    s.clearPlan.segs[j] = { s.segs[j] with valid := false }
      ∧ s.clearPlan.progress[j] = { state := .idle, count := 0, B := 0, acc := none } := by
  simp [State.clearPlan, Progress.empty]

/-- The start of pass 2 leaves the part settled. -/
theorem startPass2_settled (c : CurrentCommand) {s : State} (hs : s.Settled) : (s.startPass2 c).Settled := by
  rw [startPass2_frame]
  exact hs

/-- Settles O51: LOAD_PLAN's begin, and each termination of a read of pass 1. -/
theorem loadPlanBeginsAndChecks : Obligations.LoadPlanBeginsAndChecks := by
  refine ⟨fun c first second s hs ha hc => loadPlan_begins second hs ha hc, ?_⟩
  intro c i first windows s hs hc heng hfly v
  have hv : v.Settled := commandLanded_settled hs.2
  refine ⟨?_, ?_, ?_⟩
  · rintro line rfl
    exact exec_planCheckReadDone_first line hs heng hfly
  · rintro l0 line rfl r
    have hexec := exec_planCheckReadDone_second line hs heng hfly
    rw [State.checkRecord] at hexec
    refine ⟨segRecordOf_laidOut l0 line, fun hfail => ?_, fun hpass hi => ?_, fun hpass hi => ?_⟩
    · rw [if_neg (by rw [Bool.not_eq_true]; exact hfail)] at hexec
      exact ⟨_, hexec, loadPlan_endedWith hc .planInvalid i.1 hv⟩
    · rw [if_pos (by exact hpass), if_neg (by omega)] at hexec
      exact hexec.trans (next_settleRequests hv)
    · rw [if_pos (by exact hpass), if_pos hi] at hexec
      exact ⟨v.startPass2 c, hexec.trans (next_settleRequests (startPass2_settled c hv)), startPass2_frame c v,
        clearPlan_at v⟩
  · have hend := finish_memoryFault_endedByFault c .planReadFault i.1 hv
    rw [EndedByFault, hc] at hend
    exact ⟨_, exec_planCheckReadDone_fault hs heng hfly, hend⟩

end Sys2Proof.Machine
end

section
/-! Pass 2 of LOAD_PLAN (R7, R8): the records installed, or the plan lost by a fault. Settles O53. -/

namespace Sys2Proof.Machine

/-! ### The steps of pass 2 -/

/-- The step of a read of pass 2. -/
theorem exec_planInstallReadDone (result : Termination) (s : State) :
    exec (.planInstallReadDone result) s = execPlanInstallReadDone result s := rfl

/-- The first line of a record in pass 2 is kept. -/
theorem exec_planInstallReadDone_first {s : State} {c : CurrentCommand} {i : SegIdx} (line : Line) (hs : s.Running)
    (heng : s.engine = .executing c (.planInstall i none)) (hfly : s.inFlightFor .command = true) :
    exec (.planInstallReadDone (.done line)) s
      = .next { s.commandLanded with engine := .executing c (.planInstall i (some line)) } := by
  rw [exec_planInstallReadDone, execPlanInstallReadDone, act_of_released hs.1]
  simp only [heng, hfly]
  exact next_settleRequests (commandLanded_settled hs.2)

/-- The second line of a record in pass 2 has it installed; then the next is read, or the command ends. -/
theorem exec_planInstallReadDone_second {s w : State} {c : CurrentCommand} {i : SegIdx} {first line : Line}
    (hs : s.Running) (heng : s.engine = .executing c (.planInstall i (some first)))
    (hfly : s.inFlightFor .command = true)
    (hw : s.commandLanded.installRecord i (segRecordOf (block first line)) = w) :
    exec (.planInstallReadDone (.done line)) s
      = .next (if i.1 = 127 then w.finish c .ok w.validCount
          else { w with engine := .executing c (.planInstall (i + 1) none) }).settleRequests := by
  subst hw
  rw [exec_planInstallReadDone, execPlanInstallReadDone, act_of_released hs.1]
  simp only [heng, hfly]

/-- A fault of a read of pass 2 loses the plan, with the record's index (R8). -/
theorem exec_planInstallReadDone_fault {s : State} {c : CurrentCommand} {i : SegIdx} {first : Option Line}
    (hs : s.Running) (heng : s.engine = .executing c (.planInstall i first)) (hfly : s.inFlightFor .command = true) :
    exec (.planInstallReadDone .fault) s
      = .next (s.commandLanded.clearPlan.memoryFault.finish c .planLost i.1).settleRequests := by
  rw [exec_planInstallReadDone, execPlanInstallReadDone, act_of_released hs.1]
  simp only [heng, hfly]

/-! ### The table installed and the table lost -/

/-- A record read is installed if it is valid, with B at its seed, and otherwise left. -/
theorem installRecord_eq (i : SegIdx) (r : SegRecord) (s : State) :
    s.installRecord i r = { s with
      segs := if r.valid then s.segs.set i.1 r i.2 else s.segs
      progress := if r.valid then s.progress.set i.1 { s.progress[i] with B := r.biasSeed } i.2 else s.progress } := by
  cases h : r.valid <;> simp [State.installRecord, State.setProgress, h]

/-- An installation leaves the part settled. -/
theorem installRecord_settled (i : SegIdx) (r : SegRecord) {s : State} (hs : s.Settled) :
    (s.installRecord i r).Settled := by
  rw [installRecord_eq]
  exact hs

/-- A command that a fault ends with the plan replaced, told from the state before the replacement. -/
theorem endedByFault_over_plan {c : CurrentCommand} {r : ResultCode} {d : Nat} {v u : State}
    {segs : Vector SegRecord 128} {progress : Vector Progress 128}
    (h : EndedByFault c r d { v with segs := segs, progress := progress } u) :
    u = { v with
      last := { tag := c.tag, code := BitVec.ofNat 8 c.code.number, result := r, detail := d }, engine := .idle
      segs := u.segs, progress := u.progress, flags := u.flags, attn := u.attn, counters := u.counters
      rewrite := u.rewrite, rewriteCount := u.rewriteCount, mark := u.mark }
      ∧ (u.segs = segs ∧ u.progress = progress) ∧ FlagsSet [.memoryFault, .commandDone] v u
      ∧ CountersRaised [.memoryFaults] v u ∧ RewriteAfter true v u := by
  obtain ⟨heq, hflags, hcounters, hrewrite⟩ := h
  have hsegs := congrArg State.segs heq
  have hprogress := congrArg State.progress heq
  exact ⟨heq.trans (by simp only [hsegs, hprogress]), ⟨hsegs, hprogress⟩, hflags, hcounters, hrewrite⟩

/-- The reset of the plan leaves the part settled. -/
theorem clearPlan_settled {s : State} (hs : s.Settled) : s.clearPlan.Settled := by
  rw [State.clearPlan]
  exact hs

/-- Settles O53: each termination of a read of pass 2. -/
theorem planInstallReadTermination : Obligations.PlanInstallReadTermination := by
  intro c i first s hs hc heng hfly v
  have hv : v.Settled := commandLanded_settled hs.2
  refine ⟨?_, ?_, ?_⟩
  · rintro line rfl
    exact exec_planInstallReadDone_first line hs heng hfly
  · rintro l0 line rfl r installed
    have hinst : v.installRecord i r = installed := installRecord_eq i r v
    have hexec := exec_planInstallReadDone_second hs heng hfly hinst
    have hsettled : installed.Settled := hinst ▸ installRecord_settled i r hv
    refine ⟨segRecordOf_laidOut l0 line, fun hi => ?_, fun hi => ?_⟩
    · rw [if_neg (by omega)] at hexec
      exact hexec.trans (next_settleRequests hsettled)
    · rw [if_pos hi] at hexec
      exact ⟨_, hexec, loadPlan_endedWith hc .ok installed.validCount hsettled⟩
  · have hend := finish_memoryFault_endedByFault c .planLost i.1 (clearPlan_settled hv)
    obtain ⟨heq, ⟨hsegs, hprogress⟩, hrest⟩ := endedByFault_over_plan hend
    rw [hc] at heq
    refine ⟨_, exec_planInstallReadDone_fault hs heng hfly, heq, fun j => ?_, hrest⟩
    rw [hsegs, hprogress]
    exact clearPlan_at v j

end Sys2Proof.Machine
end

section
/-! The exposure queue and the segment progress unit, one reasoning rule for each of their operations
(R25 to R41). Settles O16 and O17. -/

namespace Sys2Proof.Machine

/-! ### A change of the queued exposure of an id (R22) -/

/-- The exposure that stands for an id is the queued one that has it. -/
theorem exposure?_of_mem {s : State} {e : Exposure} (hnd : (s.queue.map (·.id)).Nodup) (he : e ∈ s.queue) :
    s.exposure? e.id = some e := by
  obtain ⟨x, hx⟩ : ∃ x, s.exposure? e.id = some x := by
    rw [← Option.isSome_iff_exists, State.exposure?, List.find?_isSome]
    exact ⟨e, he, by simp⟩
  have hid : x.id = e.id := by simpa using List.find?_some hx
  rw [hx, List.inj_on_of_nodup_map hnd (List.mem_of_find?_eq_some hx) he hid]

/-- No exposure stands for an id exactly when none is queued with it. -/
theorem exposure?_eq_none_iff (s : State) (id : Nat) : s.exposure? id = none ↔ ∀ e ∈ s.queue, e.id ≠ id := by
  simp [State.exposure?, List.find?_eq_none]

/-- A test of the queued exposures of an id is a test of the one there is. -/
theorem any_id_eq {q : List Exposure} {e : Exposure} (p : Exposure → Bool) (hnd : (q.map (·.id)).Nodup) (he : e ∈ q) :
    (q.any fun x => x.id == e.id && p x) = p e := by
  rw [Bool.eq_iff_iff, List.any_eq_true]
  constructor
  · rintro ⟨x, hx, hp⟩
    rw [Bool.and_eq_true, beq_iff_eq] at hp
    rw [← List.inj_on_of_nodup_map hnd hx he hp.1]
    exact hp.2
  · exact fun hp => ⟨e, he, by simpa using hp⟩

/-- Two tests of a queue are one. -/
theorem any_or_any (p r : Exposure → Bool) (q : List Exposure) : (q.any p || q.any r) = q.any fun x => p x || r x := by
  induction q with
  | nil => rfl
  | cons e rest ih => simp only [List.any_cons, ← ih, Bool.or_assoc, Bool.or_left_comm]

/-- Two changes that agree on the exposure of the id are the same change. -/
theorem updateExposure_congr {s : State} {id : Nat} {f g : Exposure → Exposure}
    (h : ∀ e ∈ s.queue, e.id = id → f e = g e) : s.updateExposure id f = s.updateExposure id g := by
  have hq : (s.queue.map fun e => if e.id = id then f e else e) = s.queue.map fun e => if e.id = id then g e else e :=
    List.map_congr_left fun e he => by
      split
      · next hid => exact h e he hid
      · rfl
  simp only [State.updateExposure, hq]

/-- A change that does nothing to the exposure of the id does nothing. -/
theorem updateExposure_of_fixed {s : State} {id : Nat} {f : Exposure → Exposure}
    (h : ∀ e ∈ s.queue, e.id = id → f e = e) : s.updateExposure id f = s := by
  rw [updateExposure_congr (g := fun e => e) h]
  simp [State.updateExposure]

/-- Two changes of the exposure of an id are one. -/
theorem updateExposure_updateExposure {id : Nat} {f g : Exposure → Exposure} (hf : ∀ e, (f e).id = e.id) (s : State) :
    (s.updateExposure id f).updateExposure id g = s.updateExposure id fun e => g (f e) := by
  have hq : (fun e => if e.id = id then g e else e) ∘ (fun e => if e.id = id then f e else e)
      = fun e => if e.id = id then g (f e) else e := by
    funext e
    by_cases h : e.id = id <;> simp [h, hf]
  simp only [State.updateExposure, List.map_map, hq]

/-- A change that keeps the id keeps the ids of the queue. -/
theorem map_id_updateExposure {id : Nat} {f : Exposure → Exposure} (hf : ∀ e, (f e).id = e.id) (s : State) :
    (s.updateExposure id f).queue.map (·.id) = s.queue.map (·.id) := by
  simp only [State.updateExposure, List.map_map]
  refine List.map_congr_left fun e _ => ?_
  simp only [Function.comp]
  split <;> simp [hf]

/-- The exposure of an id after a change that keeps the id. -/
theorem exposure?_updateExposure {s : State} {e : Exposure} {f : Exposure → Exposure} (hf : ∀ e, (f e).id = e.id)
    (hnd : (s.queue.map (·.id)).Nodup) (he : e ∈ s.queue) :
    (s.updateExposure e.id f).exposure? e.id = some (f e) := by
  have hmem : f e ∈ (s.updateExposure e.id f).queue := List.mem_map.2 ⟨e, he, by simp⟩
  simpa only [hf] using exposure?_of_mem (by rwa [map_id_updateExposure hf]) hmem

/-- What a queued exposure was before a change. -/
theorem mem_updateExposure {s : State} {id : Nat} {f : Exposure → Exposure} {x : Exposure}
    (hx : x ∈ (s.updateExposure id f).queue) : ∃ e ∈ s.queue, x = if e.id = id then f e else e := by
  obtain ⟨e, he, rfl⟩ := List.mem_map.1 hx
  exact ⟨e, he, rfl⟩

/-! ### Retirement and the test for DONE (R25, R31) -/

@[simp] theorem exposure?_setProgress (s : State) (id : Nat) (i : SegIdx) (p : Progress) :
    (s.setProgress i p).exposure? id = s.exposure? id := rfl

/-- The later replacement of a progress record counts. -/
@[simp] theorem setProgress_setProgress (s : State) (i : SegIdx) (p q : Progress) :
    (s.setProgress i p).setProgress i q = s.setProgress i q := by
  simp [State.setProgress]

@[simp] theorem progress_setProgress_self (s : State) (i : SegIdx) (p : Progress) :
    (s.setProgress i p).progress[i] = p := by
  simp [State.setProgress]

theorem progress_setProgress_of_ne {i j : SegIdx} (h : j ≠ i) (s : State) (p : Progress) :
    (s.setProgress i p).progress[j] = s.progress[j] := by
  have hne : i.1 ≠ j.1 := fun hij => h (Fin.ext hij.symm)
  simp [State.setProgress, hne]

@[simp] theorem retireOne_progress (e : Exposure) (s : State) : (s.retireOne e).progress = s.progress := by
  simp [State.retireOne, State.dropReference]

@[simp] theorem retireOne_segs (e : Exposure) (s : State) : (s.retireOne e).segs = s.segs := by
  simp [State.retireOne, State.dropReference]

@[simp] theorem retireOne_counters (e : Exposure) (s : State) : (s.retireOne e).counters = s.counters := by
  simp [State.retireOne, State.dropReference]

/-- A setting event takes no part in the progress records. -/
theorem setFlag_setProgress (s : State) (f : Flag) (i : SegIdx) (p : Progress) :
    (s.setProgress i p).setFlag f = (s.setFlag f).setProgress i p := by
  by_cases h : s.flagSet f = true
  · have h' : (s.setProgress i p).flagSet f = true := h
    rw [State.setFlag, State.setFlag, if_pos h, if_pos h']
  · have h' : ¬ (s.setProgress i p).flagSet f = true := h
    rw [State.setFlag, State.setFlag, if_neg h, if_neg h']
    rfl

/-- A retirement takes no part in the progress records. -/
theorem retireOne_setProgress (s : State) (e : Exposure) (i : SegIdx) (p : Progress) :
    (s.setProgress i p).retireOne e = (s.retireOne e).setProgress i p := by
  have hflag (v : State) : ((v.setProgress i p).setFlag (retirementFlag e)).request
      = ((v.setFlag (retirementFlag e)).request).setProgress i p :=
    congrArg State.request (setFlag_setProgress v _ i p)
  rw [State.retireOne, State.retireOne, ← hflag]
  cases e.stackSlot <;> rfl

/-- What retirement leaves of the records and the counters, and the queue it leaves. -/
theorem retireAlong_frame (q : List Exposure) (s : State) :
    (State.retireAlong q s).progress = s.progress ∧ (State.retireAlong q s).segs = s.segs
      ∧ (State.retireAlong q s).counters = s.counters
      ∧ (State.retireAlong q s).queue = q.dropWhile fun e => e.state = .done := by
  induction q generalizing s with
  | nil => simp [State.retireAlong]
  | cons e rest ih =>
    by_cases h : e.state = .done
    · simpa [State.retireAlong, h] using ih (s.retireOne e)
    · simp [State.retireAlong, h]

/-- What the retirement at the head leaves. -/
theorem retireHeads_frame (s : State) :
    s.retireHeads.progress = s.progress ∧ s.retireHeads.segs = s.segs ∧ s.retireHeads.counters = s.counters
      ∧ s.retireHeads.queue = s.queue.dropWhile fun e => e.state = .done :=
  retireAlong_frame s.queue s

/-- Retirement takes no part in the progress records. -/
theorem retireAlong_setProgress (q : List Exposure) (s : State) (i : SegIdx) (p : Progress) :
    State.retireAlong q (s.setProgress i p) = (State.retireAlong q s).setProgress i p := by
  induction q generalizing s with
  | nil => rfl
  | cons e rest ih =>
    by_cases h : e.state = .done
    · simp only [State.retireAlong, h, if_true, retireOne_setProgress, ih]
    · simp only [State.retireAlong, h, if_false]
      rfl

/-- The test for DONE finds a drained exposure, and DONE exposures retire; or it changes nothing. -/
theorem testDone_cases (id : Nat) (s : State) :
    s.testDone id = s
      ∨ (∃ e, s.exposure? id = some e ∧ e.state = .draining)
        ∧ s.testDone id = ((s.updateExposure id Exposure.toDone).request).retireHeads := by
  rw [State.testDone]
  split
  · exact .inl rfl
  · next e he =>
    split
    · next h => exact .inr ⟨⟨e, he, h.1⟩, rfl⟩
    · exact .inl rfl

/-- The test for DONE changes nothing of an exposure that is not DRAINING. -/
theorem testDone_of_not_draining {s : State} {id : Nat} {e : Exposure} (he : s.exposure? id = some e)
    (h : e.state ≠ .draining) : s.testDone id = s := by
  rw [State.testDone, he]
  exact if_neg fun hd => h hd.1

/-- The test for DONE takes no part in the progress records, the segment table and the counters. -/
theorem testDone_frame (id : Nat) (s : State) :
    (s.testDone id).progress = s.progress ∧ (s.testDone id).segs = s.segs ∧ (s.testDone id).counters = s.counters := by
  obtain h | ⟨-, h⟩ := testDone_cases id s
  · rw [h]
    exact ⟨rfl, rfl, rfl⟩
  · obtain ⟨hprogress, hsegs, hcounters, -⟩ := retireHeads_frame (s.updateExposure id Exposure.toDone).request
    rw [h]
    exact ⟨hprogress, hsegs, hcounters⟩

@[simp] theorem testDone_progress (id : Nat) (s : State) : (s.testDone id).progress = s.progress :=
  (testDone_frame id s).1

@[simp] theorem testDone_segs (id : Nat) (s : State) : (s.testDone id).segs = s.segs :=
  (testDone_frame id s).2.1

@[simp] theorem testDone_counters (id : Nat) (s : State) : (s.testDone id).counters = s.counters :=
  (testDone_frame id s).2.2

/-- The queue after the test for DONE. -/
theorem testDone_queue (id : Nat) (s : State) :
    (s.testDone id).queue = s.queue
      ∨ (∃ e, s.exposure? id = some e ∧ e.state = .draining)
        ∧ (s.testDone id).queue
          = (s.updateExposure id Exposure.toDone).queue.dropWhile fun e => e.state = .done := by
  obtain h | ⟨he, h⟩ := testDone_cases id s
  · exact .inl (by rw [h])
  · refine .inr ⟨he, ?_⟩
    obtain ⟨-, -, -, hqueue⟩ := retireHeads_frame (s.updateExposure id Exposure.toDone).request
    rw [h]
    exact hqueue

/-- The test for DONE takes no part in the progress records. -/
theorem testDone_setProgress (id : Nat) (s : State) (i : SegIdx) (p : Progress) :
    (s.setProgress i p).testDone id = (s.testDone id).setProgress i p := by
  rw [State.testDone, State.testDone, exposure?_setProgress]
  split
  · rfl
  · split
    · exact retireAlong_setProgress _ ((s.updateExposure id Exposure.toDone).request) i p
    · rfl

/-- An exposure still queued after the test for DONE was queued before it, with the same id, ended set and reason. -/
theorem mem_testDone_queue {id : Nat} {s : State} {x : Exposure} (hx : x ∈ (s.testDone id).queue) :
    ∃ e ∈ s.queue, x.id = e.id ∧ x.ended = e.ended ∧ x.cutReason = e.cutReason := by
  obtain h | ⟨-, h⟩ := testDone_queue id s
  · exact ⟨x, h ▸ hx, rfl, rfl, rfl⟩
  · rw [h] at hx
    obtain ⟨e, he, rfl⟩ := mem_updateExposure ((List.dropWhile_sublist _).mem hx)
    exact ⟨e, he, by split <;> simp [Exposure.toDone]⟩

/-- The test for DONE brings no id into the queue twice. -/
theorem testDone_nodup {id : Nat} {s : State} (hnd : (s.queue.map (·.id)).Nodup) :
    ((s.testDone id).queue.map (·.id)).Nodup := by
  obtain h | ⟨-, h⟩ := testDone_queue id s
  · rwa [h]
  · rw [h]
    refine List.Nodup.sublist ((List.dropWhile_sublist _).map _) ?_
    rwa [map_id_updateExposure (f := Exposure.toDone) fun _ => rfl]

/-! ### The next assignment of a segment (R39) -/

/-- The exposure that a segment is assigned to is queued, names it and has not ended it. -/
theorem nextAssignment_eq_some {i : SegIdx} {q : List Exposure} {id : Nat} (h : nextAssignment i q = some id) :
    ∃ e ∈ q, e.id = id ∧ e.segSet.getLsbD i.1 = true ∧ e.ended.getLsbD i.1 = false := by
  obtain ⟨e, hfind, rfl⟩ := Option.map_eq_some_iff.1 h
  have hopen := List.find?_some hfind
  rw [Bool.and_eq_true, Bool.not_eq_true'] at hopen
  exact ⟨e, List.mem_of_find?_eq_some hfind, rfl, hopen.1, hopen.2⟩

/-- A change that keeps ids, segment sets and ended sets keeps the assignments. -/
theorem nextAssignment_map {f : Exposure → Exposure}
    (hf : ∀ e, (f e).id = e.id ∧ (f e).segSet = e.segSet ∧ (f e).ended = e.ended) (i : SegIdx) (q : List Exposure) :
    nextAssignment i (q.map f) = nextAssignment i q := by
  have hopen : (fun e : Exposure => e.segSet.getLsbD i.1 && !e.ended.getLsbD i.1) ∘ f
      = fun e => e.segSet.getLsbD i.1 && !e.ended.getLsbD i.1 := by
    funext e
    obtain ⟨-, hset, hended⟩ := hf e
    simp only [Function.comp, hset, hended]
  have hid : (fun e : Exposure => e.id) ∘ f = fun e => e.id := funext fun e => (hf e).1
  rw [nextAssignment, nextAssignment, List.find?_map, hopen, Option.map_map, hid]

/-- Exposures at the head that have ended the segment are none of its assignments. -/
theorem nextAssignment_dropWhile {p : Exposure → Bool} {i : SegIdx} {q : List Exposure}
    (h : ∀ e ∈ q, p e = true → (e.segSet.getLsbD i.1 && !e.ended.getLsbD i.1) = false) :
    nextAssignment i (q.dropWhile p) = nextAssignment i q := by
  induction q with
  | nil => rfl
  | cons e rest ih =>
    cases hp : p e with
    | false => rw [List.dropWhile_cons_of_neg (by simp [hp])]
    | true =>
      have he := h e List.mem_cons_self hp
      rw [List.dropWhile_cons_of_pos hp, ih fun x hx => h x (List.mem_cons_of_mem e hx), nextAssignment, nextAssignment,
        List.find?_cons_of_neg (by simp only [he]; decide)]

/-- The test for DONE leaves every segment its assignment: what retires has ended all of its segments. -/
theorem nextAssignment_testDone {id : Nat} {s : State} (hnd : (s.queue.map (·.id)).Nodup)
    (h : ∀ e ∈ s.queue, e.state = .draining ∨ e.state = .done → e.ended = e.segSet) (i : SegIdx) :
    nextAssignment i (s.testDone id).queue = nextAssignment i s.queue := by
  obtain hq | ⟨⟨x, hx, hdrain⟩, hq⟩ := testDone_queue id s
  · rw [hq]
  · have hkeep : ∀ e : Exposure, (if e.id = id then e.toDone else e).id = e.id
        ∧ (if e.id = id then e.toDone else e).segSet = e.segSet
        ∧ (if e.id = id then e.toDone else e).ended = e.ended := fun e => by
      split <;> simp [Exposure.toDone]
    rw [hq, nextAssignment_dropWhile, State.updateExposure, nextAssignment_map hkeep]
    intro y hy hdone
    obtain ⟨e, he, rfl⟩ := mem_updateExposure hy
    obtain ⟨-, hset, hended⟩ := hkeep e
    have hall : e.ended = e.segSet := by
      by_cases hid : e.id = id
      · have hex : x = e := by
          have hsome := exposure?_of_mem hnd he
          rw [hid, hx] at hsome
          exact Option.some.inj hsome
        exact h e he (.inl (hex ▸ hdrain))
      · exact h e he (.inr (by simpa [hid] using hdone))
    rw [hset, hended, hall, Bool.and_not_self]

/-- A progress record that moves stands at the assignment given. -/
theorem assign_eq_movedTo (p : Progress) (next : Option Nat) : p.assign next = p.movedTo next := by
  cases next <;> rfl

/-- A segment's move to its next assignment, over whatever its record was. -/
theorem moveToNext_setProgress (s : State) (i : SegIdx) (p : Progress) :
    (s.setProgress i p).moveToNext i = s.setProgress i (p.movedTo (nextAssignment i s.queue)) := by
  rw [State.moveToNext, progress_setProgress_self, setProgress_setProgress, assign_eq_movedTo]
  rfl

/-! ### Requests made under a condition (R172) -/

/-- A request that is made or not. -/
def State.requestIf (wanted : Bool) (s : State) : State := { s with requested := s.requested || wanted }

theorem requestIf_true (s : State) : s.requestIf true = s.request := by
  simp [State.requestIf, State.request]

theorem requestIf_false (s : State) : s.requestIf false = s := by
  simp [State.requestIf]

/-! ### A pixel is taken (R25, R28, R30, R37) -/

/-- A QUEUED exposure as it becomes READING (R25). -/
def Exposure.begun (e : Exposure) : Exposure := { e with state := if e.state = .queued then .reading else e.state }

/-- The state after a pixel is taken for an exposure, before the segment's position count rises (R25, R28, R30). -/
def State.withTaken (id : Nat) (cls : PixelClass) (s : State) : State :=
  (s.updateExposure id (Exposure.withPixel cls)).requestIf (s.queue.any fun e => e.id == id && e.state == .queued)

/-- The first taken pixel makes a QUEUED exposure READING, with a request; at any other nothing changes. -/
theorem beginReading_eq {s : State} (hnd : (s.queue.map (·.id)).Nodup) (id : Nat) :
    s.beginReading id
      = (s.updateExposure id Exposure.begun).requestIf (s.queue.any fun e => e.id == id && e.state == .queued) := by
  rw [State.beginReading]
  cases hx : s.exposure? id with
  | none =>
    rw [exposure?_eq_none_iff] at hx
    have hany : (s.queue.any fun e => e.id == id && e.state == .queued) = false := by
      simpa [List.any_eq_false] using fun e he h => absurd h (hx e he)
    rw [updateExposure_of_fixed (f := Exposure.begun) fun e he h => absurd h (hx e he), hany, requestIf_false]
  | some e =>
    have he : e ∈ s.queue := List.mem_of_find?_eq_some hx
    obtain rfl : e.id = id := by simpa using List.find?_some hx
    have hsame : ∀ x ∈ s.queue, x.id = e.id → x = e := fun x hxq => List.inj_on_of_nodup_map hnd hxq he
    rw [any_id_eq (fun x => x.state == .queued) hnd he]
    by_cases hq : e.state = .queued
    · have hbegun : ∀ x ∈ s.queue, x.id = e.id → Exposure.begun x = { x with state := .reading } := fun x hxq hid => by
        rw [hsame x hxq hid, Exposure.begun, if_pos hq]
      rw [updateExposure_congr hbegun]
      simp [hq, requestIf_true]
    · have hbegun : ∀ x ∈ s.queue, x.id = e.id → Exposure.begun x = x := fun x hxq hid => by
        rw [hsame x hxq hid, Exposure.begun, if_neg hq]
      rw [updateExposure_of_fixed hbegun, beq_eq_false_iff_ne.2 hq, requestIf_false]
      exact if_neg hq

/-- An exposure begun and then counted is the exposure with one more pixel. -/
theorem takeOne_begun (cls : PixelClass) (e : Exposure) : e.begun.takeOne cls = e.withPixel cls := by
  have hreads : e.begun.state = .reading ↔ e.state = .queued ∨ e.state = .reading := by
    cases h : e.state <;> simp [Exposure.begun, h]
  by_cases harms : (e.state = .queued ∨ e.state = .reading) ∧ e.stallTimeout ≠ 0
  · have hbegun : e.begun.state = .reading ∧ e.begun.stallTimeout ≠ 0 := ⟨hreads.2 harms.1, harms.2⟩
    simp only [Exposure.takeOne, Exposure.withPixel, if_pos harms, if_pos hbegun]
    cases cls <;> rfl
  · have hbegun : ¬ (e.begun.state = .reading ∧ e.begun.stallTimeout ≠ 0) := fun h => harms ⟨hreads.1 h.1, h.2⟩
    simp only [Exposure.takeOne, Exposure.withPixel, if_neg harms, if_neg hbegun]
    cases cls <;> rfl

/-- A pixel is taken for an exposure, the position count aside. -/
theorem takeOne_beginReading {s : State} (hnd : (s.queue.map (·.id)).Nodup) (id : Nat) (cls : PixelClass) :
    (s.beginReading id).updateExposure id (Exposure.takeOne cls) = s.withTaken id cls := by
  have htwo := updateExposure_updateExposure (id := id) (g := Exposure.takeOne cls) (f := Exposure.begun)
    (fun _ => rfl) s
  simp only [takeOne_begun] at htwo
  rw [beginReading_eq hnd, State.withTaken, ← htwo]
  rfl

/-- A pixel that leaves the frame unfinished is taken, and the position count rises. -/
theorem takePixel_of_lt {s : State} {i : SegIdx} (hnd : (s.queue.map (·.id)).Nodup) (id : Nat) (cls : PixelClass)
    (h : s.progress[i].count + 1 < s.segs[i].extent) :
    s.takePixel i id cls
      = (s.withTaken id cls).setProgress i { s.progress[i] with count := s.progress[i].count + 1 } := by
  rw [State.takePixel, takeOne_beginReading hnd, State.countPosition]
  refine (if_neg ?_).trans rfl
  rw [progress_setProgress_self]
  exact Nat.not_le.2 h

/-- A pixel that completes the frame is taken, and the segment has ended its exposure. -/
theorem takePixel_of_ge {s : State} {i : SegIdx} (hnd : (s.queue.map (·.id)).Nodup) (id : Nat) (cls : PixelClass)
    (h : s.segs[i].extent ≤ s.progress[i].count + 1) :
    s.takePixel i id cls
      = ((((s.withTaken id cls).setProgress i { s.progress[i] with count := s.progress[i].count + 1 }).endSegments id
          (segMask i) none).moveToNext i) := by
  rw [State.takePixel, takeOne_beginReading hnd, State.countPosition]
  refine (if_pos ?_).trans rfl
  rw [progress_setProgress_self]
  exact h

/-! ### A segment ends its exposure (R25, R26, R38, R39) -/

/-- Every exposure that has drained has ended all of its segments (R25). -/
def State.DrainedHaveEnded (s : State) : Prop :=
  ∀ e ∈ s.queue, e.state = .draining ∨ e.state = .done → e.ended = e.segSet

/-- The state after one segment has ended an exposure, before the test for DONE (R25, R26). -/
def State.withEnded (id : Nat) (i : SegIdx) (reason : Option CutReason) (s : State) : State :=
  (s.updateExposure id (Exposure.endedBy i reason)).requestIf
    (s.queue.any fun e => e.id == id && e.ended ||| segMask i == e.segSet)

/-- A segment's end of an exposure keeps the exposure's id and its segments. -/
theorem endedBy_fixed (i : SegIdx) (reason : Option CutReason) (e : Exposure) :
    (e.endedBy i reason).id = e.id ∧ (e.endedBy i reason).segSet = e.segSet := by
  rw [Exposure.endedBy]
  split <;> exact ⟨rfl, rfl⟩

/-- What a segment's end of an exposure makes of its ended set and its cut reason. -/
theorem endedBy_ended (i : SegIdx) (reason : Option CutReason) (e : Exposure) :
    (e.endedBy i reason).ended = e.ended ||| segMask i ∧ (e.endedBy i reason).cutReason = e.cutReason.or reason := by
  rw [Exposure.endedBy]
  split <;> exact ⟨rfl, rfl⟩

/-- The segment is a member of the ended set it has joined. -/
theorem getLsbD_or_segMask (m : BitVec 128) (i : SegIdx) : (m ||| segMask i).getLsbD i.1 = true := by
  simp [segMask, i.2]

/-- One segment ends its exposure, which has not drained: it is DRAINING once it has ended all of them, with a request,
and is tested for DONE. -/
theorem endSegments_eq {s : State} {e : Exposure} (hnd : (s.queue.map (·.id)).Nodup) (he : e ∈ s.queue)
    (hstate : e.state = .queued ∨ e.state = .reading) (i : SegIdx) (reason : Option CutReason) :
    s.endSegments e.id (segMask i) reason = (s.withEnded e.id i reason).testDone e.id := by
  have hsame : ∀ x ∈ s.queue, x.id = e.id → x = e := fun x hxq => List.inj_on_of_nodup_map hnd hxq he
  rw [State.withEnded, any_id_eq (fun x => x.ended ||| segMask i == x.segSet) hnd he, State.endSegments,
    State.testDraining, exposure?_updateExposure (f := Exposure.join (segMask i) reason) (fun _ => rfl) hnd he]
  by_cases hall : e.ended ||| segMask i = e.segSet
  · have hdrains : ∀ x ∈ s.queue, x.id = e.id →
        (x.join (segMask i) reason).toDraining = x.endedBy i reason := fun x hx hid => by
      rw [hsame x hx hid, Exposure.endedBy, if_pos hall]
      cases hr : e.cutReason <;> simp [Exposure.join, Exposure.toDraining, hr]
    rw [beq_iff_eq.2 hall, requestIf_true, ← updateExposure_congr hdrains,
      ← updateExposure_updateExposure (f := Exposure.join (segMask i) reason) (g := Exposure.toDraining) (fun _ => rfl)]
    exact if_pos ⟨hstate, hall⟩
  · have hjoins : ∀ x ∈ s.queue, x.id = e.id → x.join (segMask i) reason = x.endedBy i reason := fun x hx hid => by
      rw [hsame x hx hid, Exposure.endedBy, if_neg hall]
      cases hr : e.cutReason <;> simp [Exposure.join, hr]
    have hjoin := exposure?_updateExposure (f := Exposure.join (segMask i) reason) (fun _ => rfl) hnd he
    rw [beq_eq_false_iff_ne.2 hall, requestIf_false, ← updateExposure_congr hjoins, testDone_of_not_draining hjoin]
    · exact if_neg fun h => hall h.2
    · rcases hstate with h | h <;> simp [Exposure.join, h]

/-- A pixel taken leaves every drained exposure with all of its segments ended. -/
theorem withTaken_drainedHaveEnded {s : State} (h : s.DrainedHaveEnded) (id : Nat) (cls : PixelClass) :
    (s.withTaken id cls).DrainedHaveEnded := by
  intro x hx
  obtain ⟨e, he, rfl⟩ := mem_updateExposure hx
  split
  · intro hdrained
    refine h e he ?_
    cases hs : e.state <;> simp [hs] at hdrained ⊢
  · exact h e he

/-- A segment's end leaves every drained exposure with all of its segments ended. -/
theorem withEnded_drainedHaveEnded {s : State} {e : Exposure} (hnd : (s.queue.map (·.id)).Nodup) (he : e ∈ s.queue)
    (hstate : e.state = .queued ∨ e.state = .reading) (h : s.DrainedHaveEnded) (i : SegIdx)
    (reason : Option CutReason) :
    (s.withEnded e.id i reason).DrainedHaveEnded := by
  intro x hx
  obtain ⟨y, hy, rfl⟩ := mem_updateExposure hx
  split
  · next hid =>
    obtain rfl := List.inj_on_of_nodup_map hnd hy he hid
    by_cases hall : y.ended ||| segMask i = y.segSet
    · rw [(endedBy_ended i reason y).1, (endedBy_fixed i reason y).2]
      exact fun _ => hall
    · rw [Exposure.endedBy, if_neg hall]
      rcases hstate with hs | hs <;> simp [hs]
  · exact h y hy

/-- A pixel taken keeps the ids of the queue. -/
theorem map_id_withTaken (id : Nat) (cls : PixelClass) (s : State) :
    (s.withTaken id cls).queue.map (·.id) = s.queue.map (·.id) :=
  map_id_updateExposure (f := Exposure.withPixel cls) (fun _ => rfl) s

/-- A queued exposure after a pixel was taken was queued before it, with the same id, ended set and reason. -/
theorem mem_withTaken_queue {id : Nat} {cls : PixelClass} {s : State} {x : Exposure}
    (hx : x ∈ (s.withTaken id cls).queue) :
    ∃ e ∈ s.queue, x.id = e.id ∧ x.ended = e.ended ∧ x.cutReason = e.cutReason := by
  obtain ⟨e, he, rfl⟩ := mem_updateExposure hx
  exact ⟨e, he, by split <;> exact ⟨rfl, rfl, rfl⟩⟩

/-- A segment's end of an exposure keeps the ids of the queue. -/
theorem map_id_withEnded (id : Nat) (i : SegIdx) (reason : Option CutReason) (s : State) :
    (s.withEnded id i reason).queue.map (·.id) = s.queue.map (·.id) :=
  map_id_updateExposure (f := Exposure.endedBy i reason) (fun e => (endedBy_fixed i reason e).1) s

/-- In an exposure still queued after a segment has ended it and the test for DONE, the segment is ended, and the reason
is kept if none was set. -/
theorem mem_testDone_withEnded {s : State} {id : Nat} {i : SegIdx} {reason : Option CutReason}
    (hnd : (s.queue.map (·.id)).Nodup) {x : Exposure} (hx : x ∈ ((s.withEnded id i reason).testDone id).queue)
    (hid : x.id = id) :
    x.ended.getLsbD i.1 = true ∧ ∀ e ∈ s.queue, e.id = id → x.cutReason = e.cutReason.or reason := by
  obtain ⟨y, hy, hyid, hended, hreason⟩ := mem_testDone_queue hx
  obtain ⟨z, hz, rfl⟩ := mem_updateExposure hy
  have hzid : z.id = id := by
    rw [hid] at hyid
    split at hyid
    · assumption
    · exact hyid.symm
  rw [if_pos hzid] at hended hreason
  obtain ⟨hset, hcut⟩ := endedBy_ended i reason z
  refine ⟨by rw [hended, hset, getLsbD_or_segMask], fun e he heid => ?_⟩
  rw [hreason, hcut, List.inj_on_of_nodup_map hnd hz he (hzid.trans heid.symm)]

/-- The next assignments after a segment's end do not wait for the test for DONE. -/
theorem nextAssignment_testDone_withEnded {s : State} {e : Exposure} (hnd : (s.queue.map (·.id)).Nodup)
    (he : e ∈ s.queue) (hstate : e.state = .queued ∨ e.state = .reading) (h : s.DrainedHaveEnded) (i : SegIdx)
    (reason : Option CutReason) :
    nextAssignment i ((s.withEnded e.id i reason).testDone e.id).queue
      = nextAssignment i (s.withEnded e.id i reason).queue :=
  nextAssignment_testDone (by rwa [map_id_withEnded]) (withEnded_drainedHaveEnded hnd he hstate h i reason) i

/-! ### The ledger (R21, R22, R25, R39) -/

/-- With the ledger in balance no id is queued twice. -/
theorem ledger_nodup {s : State} (hl : s.LedgerBalances) : (s.queue.map (·.id)).Nodup := by
  obtain ⟨hnd, -⟩ := hl
  exact hnd

/-- The exposure of an assigned progress record is queued, names the segment, and has not drained (R25, R39). -/
theorem ledger_current {s : State} {i : SegIdx} {id : Nat} (hl : s.LedgerBalances)
    (h : s.progress[i].state.exposure = some id) :
    ∃ e ∈ s.queue, e.id = id ∧ (e.state = .queued ∨ e.state = .reading) := by
  obtain ⟨-, horder, -, hassigned, -⟩ := hl
  obtain ⟨e, he, hid, hset, hended⟩ := nextAssignment_eq_some ((hassigned i).symm.trans h)
  obtain ⟨-, hdrained, -, -⟩ := horder e he
  refine ⟨e, he, hid, ?_⟩
  have hopen : e.ended ≠ e.segSet := fun heq => by
    rw [heq, hset] at hended
    cases hended
  cases hs : e.state <;> simp [hs, hopen] at hdrained ⊢

/-- With the ledger in balance every drained exposure has ended all of its segments. -/
theorem ledger_drainedHaveEnded {s : State} (hl : s.LedgerBalances) : s.DrainedHaveEnded := by
  obtain ⟨-, horder, -⟩ := hl
  intro e he
  obtain ⟨-, hdrained, -⟩ := horder e he
  exact hdrained.1

/-! ### A pixel offered to an ARMED record (R36) -/

@[simp] theorem orphan_progress (s : State) : s.orphan.progress = s.progress := by
  rw [State.orphan, bump_progress, setFlag_progress]

/-- An orphan pixel raises its own counter (R41). -/
theorem orphan_counter (c : Counter) (s : State) :
    s.orphan.counter c = if c = .orphanPixels then saturatingSucc (s.counter .orphanPixels) else s.counter c := by
  rw [State.orphan, counter_bump]
  simp only [State.counter, setFlag_counters]


/-- Pixel index 0 offered to an ARMED record starts the frame, and is taken. -/
theorem offer_zero_of_armed {s : State} {i : SegIdx} {id : Nat} (cls : PixelClass) (hnd : (s.queue.map (·.id)).Nodup)
    (harmed : s.progress[i].state = .armed id) (hext : 1 < s.segs[i].extent) :
    s.offer i 0 cls
      = ((s.withTaken id cls).setProgress i { s.progress[i] with state := .reading id, count := 1, acc := none },
        some id) := by
  have hlt : (s.startFrame i id).progress[i].count + 1 < (s.startFrame i id).segs[i].extent := by
    simpa only [State.startFrame, progress_setProgress_self, setProgress_segs] using hext
  have htake := takePixel_of_lt (s := s.startFrame i id) hnd id cls hlt
  simp only [State.startFrame, progress_setProgress_self] at htake
  simp only [State.offer, harmed, if_true, State.offerFirst, State.startFrame, htake, Nat.zero_add]
  exact congrArg (·, some id) (setProgress_setProgress (s.withTaken id cls) i _ _)

/-- Settles O16: a pixel of another index is an orphan, index 0 starts the frame. -/
theorem pixelOfferedToArmedSegment : Obligations.PixelOfferedToArmedSegment := by
  intro i p id cls s hnd harmed hext
  constructor
  · intro hp
    have hoffer : s.offer i p cls = (s.orphan, none) := by
      simp only [State.offer, harmed, if_neg hp]
    exact ⟨hoffer, by rw [orphan_progress]⟩
  · rintro rfl
    exact ⟨_, offer_zero_of_armed cls hnd harmed hext, rfl⟩

/-! ### A pixel offered to a READING record (R37 to R39) -/

/-- A pixel that completes the frame and so ends the exposure for the segment. -/
theorem withEnded_withTaken (id : Nat) (cls : PixelClass) (i : SegIdx) (s : State) :
    (s.withTaken id cls).withEnded id i none = { s with
      queue := s.queue.map fun e => if e.id = id then (e.withPixel cls).endedBy i none else e
      requested := s.requested || s.queue.any fun e =>
        e.id == id && (e.state == .queued || e.ended ||| segMask i == e.segSet) } := by
  have htwo := congrArg State.queue (updateExposure_updateExposure (id := id) (f := Exposure.withPixel cls)
    (g := Exposure.endedBy i none) (fun _ => rfl) s)
  have htest : (fun e : Exposure => e.id == id && e.state == .queued
        || ((fun e : Exposure => e.id == id && e.ended ||| segMask i == e.segSet)
          ∘ fun e => if e.id = id then e.withPixel cls else e) e)
      = fun e => e.id == id && (e.state == .queued || e.ended ||| segMask i == e.segSet) := by
    funext e
    by_cases hid : e.id = id
    · simp [hid]
    · simp [hid, beq_eq_false_iff_ne.2 hid]
  rw [← htest, ← any_or_any, ← List.any_map, ← Bool.or_assoc]
  simp only [State.updateExposure, State.withEnded, State.withTaken, State.requestIf] at htwo ⊢
  rw [htwo]

/-- A frame completed: the segment has ended its exposure and stands at its next assignment. -/
theorem takePixel_completes {s : State} {i : SegIdx} {id : Nat} (cls : PixelClass) (hl : s.LedgerBalances)
    (hcur : s.progress[i].state.exposure = some id) (h : s.segs[i].extent ≤ s.progress[i].count + 1) :
    s.takePixel i id cls = (((s.withTaken id cls).withEnded id i none).testDone id).setProgress i
      (s.progress[i].movedTo (nextAssignment i ((s.withTaken id cls).withEnded id i none).queue)) := by
  obtain ⟨e, he, rfl, hstate⟩ := ledger_current hl hcur
  have hnd := ledger_nodup hl
  have htaken : e.withPixel cls ∈ (s.withTaken e.id cls).queue := List.mem_map.2 ⟨e, he, if_pos rfl⟩
  have hopen : (e.withPixel cls).state = .queued ∨ (e.withPixel cls).state = .reading := by
    rcases hstate with hs | hs <;> simp [hs]
  have hndT : ((s.withTaken e.id cls).queue.map (·.id)).Nodup := by rwa [map_id_withTaken]
  have hend := endSegments_eq (s := (s.withTaken e.id cls).setProgress i
    { s.progress[i] with count := s.progress[i].count + 1 }) hndT htaken hopen i none
  have hnext := nextAssignment_testDone_withEnded hndT htaken hopen
    (withTaken_drainedHaveEnded (ledger_drainedHaveEnded hl) e.id cls) i none
  rw [takePixel_of_ge hnd e.id cls h]
  have hdone := testDone_setProgress e.id ((s.withTaken e.id cls).withEnded e.id i none) i
    { s.progress[i] with count := s.progress[i].count + 1 }
  refine (congrArg (State.moveToNext i) (hend.trans hdone)).trans ?_
  rw [moveToNext_setProgress]
  exact congrArg (fun next => State.setProgress i (s.progress[i].movedTo next) _) hnext

/-- A short frame: the segment has ended its exposure, the short-frame counter rises, and the record stands at its next
assignment. -/
theorem shortFrame_eq {s : State} {i : SegIdx} {id : Nat} (hl : s.LedgerBalances)
    (hcur : s.progress[i].state.exposure = some id) :
    s.shortFrame i id = (((s.withEnded id i (some .short)).testDone id).bump .shortFrames).setProgress i
      (s.progress[i].movedTo (nextAssignment i (s.withEnded id i (some .short)).queue)) := by
  obtain ⟨e, he, rfl, hstate⟩ := ledger_current hl hcur
  have hnd := ledger_nodup hl
  have hnext := nextAssignment_testDone_withEnded hnd he hstate (ledger_drainedHaveEnded hl) i (some .short)
  rw [State.shortFrame, endSegments_eq hnd he hstate, State.moveToNext, assign_eq_movedTo, bump_queue, hnext]
  simp only [bump_progress, testDone_progress]
  rfl

/-- A pixel other than index 0 offered to a READING record is taken. -/
theorem offer_of_reading {s : State} {i : SegIdx} {p id : Nat} (cls : PixelClass)
    (hread : s.progress[i].state = .reading id) (hp : p ≠ 0) :
    s.offer i p cls = (s.takePixel i id cls, some id) := by
  simp only [State.offer, hread, if_neg hp]

/-- Pixel index 0 offered to a READING record ends a short frame; then it is offered to a record that is not READING. -/
theorem offer_zero_of_reading {s : State} {i : SegIdx} {id : Nat} (cls : PixelClass)
    (hread : s.progress[i].state = .reading id) : s.offer i 0 cls = (s.shortFrame i id).offerFirst i cls := by
  simp only [State.offer, hread, if_true]

/-- A READING record's current exposure. -/
theorem exposure_of_reading {p : Progress} {id : Nat} (h : p.state = .reading id) : p.state.exposure = some id := by
  rw [h]
  rfl

/-- A pixel other than index 0 offered to a READING record (R37, R39). -/
theorem offer_reading_takes {i : SegIdx} {p id : Nat} (cls : PixelClass) {s : State} (hl : s.LedgerBalances)
    (hread : s.progress[i].state = .reading id) (hp : p ≠ 0) :
    ∃ u, s.offer i p cls = (u, some id)
      ∧ (∀ j : SegIdx, j ≠ i → u.progress[j] = s.progress[j])
      ∧ (s.progress[i].count + 1 < s.segs[i].extent →
        u = (s.withTaken id cls).setProgress i { s.progress[i] with count := s.progress[i].count + 1 })
      ∧ (s.segs[i].extent ≤ s.progress[i].count + 1 →
        u = (((s.withTaken id cls).withEnded id i none).testDone id).setProgress i
          (s.progress[i].movedTo (nextAssignment i ((s.withTaken id cls).withEnded id i none).queue))
        ∧ ∀ e ∈ u.queue, e.id = id → e.ended.getLsbD i.1 = true
          ∧ ∀ e0 ∈ s.queue, e0.id = id → e.cutReason = e0.cutReason) := by
  refine ⟨_, offer_of_reading cls hread hp, ?_⟩
  by_cases hlt : s.progress[i].count + 1 < s.segs[i].extent
  · rw [takePixel_of_lt (ledger_nodup hl) id cls hlt]
    exact ⟨fun j hj => progress_setProgress_of_ne hj _ _, fun _ => rfl, fun h => absurd hlt (Nat.not_lt.2 h)⟩
  · rw [takePixel_completes cls hl (exposure_of_reading hread) (Nat.not_lt.1 hlt)]
    refine ⟨fun j hj => ?_, fun h => absurd h hlt, fun _ => ⟨rfl, fun e he hid => ?_⟩⟩
    · rw [progress_setProgress_of_ne hj, testDone_progress]
      rfl
    · have hnd : ((s.withTaken id cls).queue.map (·.id)).Nodup := by
        rw [map_id_withTaken]
        exact ledger_nodup hl
      obtain ⟨hended, hreason⟩ := mem_testDone_withEnded hnd he hid
      refine ⟨hended, fun e0 he0 hid0 => ?_⟩
      rw [hreason (e0.withPixel cls) (List.mem_map.2 ⟨e0, he0, if_pos hid0⟩) hid0]
      exact Option.or_none

/-- Pixel index 0 offered to a READING record (R38): the short frame, and then what becomes of the pixel. -/
theorem offer_zero_reading_short {i : SegIdx} {id : Nat} (cls : PixelClass) {s w : State} {next : Option Nat}
    (hl : s.LedgerBalances) (hread : s.progress[i].state = .reading id) (hext : 1 < s.segs[i].extent)
    (hnext : nextAssignment i (s.withEnded id i (some .short)).queue = next)
    (hw : (((s.withEnded id i (some .short)).testDone id).bump .shortFrames).setProgress i (s.progress[i].movedTo next)
      = w) :
    (next = none → s.offer i 0 cls = (w.orphan, none))
      ∧ (∀ id', next = some id' → w.progress[i].state = .armed id' ∧ s.offer i 0 cls = w.offer i 0 cls
        ∧ w.offer i 0 cls = ((w.withTaken id' cls).setProgress i
            { w.progress[i] with state := .reading id', count := 1, acc := none }, some id')) := by
  have hshort := shortFrame_eq hl (exposure_of_reading hread)
  rw [hnext, hw] at hshort
  have hrecord : w.progress[i] = s.progress[i].movedTo next := by rw [← hw, progress_setProgress_self]
  rw [offer_zero_of_reading cls hread, hshort]
  constructor
  · rintro rfl
    have hidle : w.progress[i].state = .idle := by rw [hrecord]; rfl
    simp only [State.offerFirst, hidle]
  · rintro id' rfl
    have harmed : w.progress[i].state = .armed id' := by rw [hrecord]; rfl
    have hnd : (w.queue.map (·.id)).Nodup := by
      rw [← hw]
      exact testDone_nodup (by rw [map_id_withEnded]; exact ledger_nodup hl)
    have hsegs : w.segs = s.segs := by
      rw [← hw, setProgress_segs, bump_segs, testDone_segs]
      rfl
    refine ⟨harmed, ?_, offer_zero_of_armed cls hnd harmed (by rw [hsegs]; exact hext)⟩
    simp only [State.offer, harmed, if_true]

/-- What a short frame leaves of the counters, the records and the exposure (R38). -/
theorem shortFrame_leaves {i : SegIdx} {id : Nat} {s w : State} {p : Progress} (hnd : (s.queue.map (·.id)).Nodup)
    (hw : (((s.withEnded id i (some .short)).testDone id).bump .shortFrames).setProgress i p = w) :
    w.counter .shortFrames = saturatingSucc (s.counter .shortFrames) ∧ w.counter .orphanPixels = s.counter .orphanPixels
      ∧ w.progress[i] = p ∧ (∀ j : SegIdx, j ≠ i → w.progress[j] = s.progress[j])
      ∧ ∀ e ∈ w.queue, e.id = id → e.ended.getLsbD i.1 = true
        ∧ ∀ e0 ∈ s.queue, e0.id = id → e.cutReason = some (e0.cutReason.getD .short) := by
  have hcounter : ∀ c, w.counter c
      = if c = .shortFrames then saturatingSucc (s.counter .shortFrames) else s.counter c := by
    intro c
    have hdone : ∀ c, ((s.withEnded id i (some .short)).testDone id).counter c = s.counter c := fun c => by
      rw [State.counter, testDone_counters]
      rfl
    rw [← hw, State.counter, setProgress_counters, ← State.counter, counter_bump]
    simp only [hdone]
  refine ⟨hcounter _, hcounter _, ?_, fun j hj => ?_, fun e he hid => ?_⟩
  · rw [← hw, progress_setProgress_self]
  · rw [← hw, progress_setProgress_of_ne hj, bump_progress, testDone_progress]
    rfl
  · rw [← hw, setProgress_queue, bump_queue] at he
    obtain ⟨hended, hreason⟩ := mem_testDone_withEnded hnd he hid
    refine ⟨hended, fun e0 he0 hid0 => ?_⟩
    rw [hreason e0 he0 hid0]
    cases e0.cutReason <;> rfl

/-- Settles O17: a pixel taken, with or without the end of the frame; and the short frame, by its next assignment. -/
theorem pixelOfferedToReadingSegment : Obligations.PixelOfferedToReadingSegment := by
  constructor
  · intro i p id cls s hl hread hp
    obtain ⟨u, hoffer, hothers, hlt, hge⟩ := offer_reading_takes cls hl hread hp
    refine ⟨u, hoffer, hothers, hlt, fun h => ?_⟩
    obtain ⟨hu, hleft⟩ := hge h
    rw [withEnded_withTaken, State.setProgress, testDone_progress] at hu
    exact ⟨hu, hleft⟩
  · intro i id cls s hl hread hext v next w
    have hw : (((s.withEnded id i (some .short)).testDone id).bump .shortFrames).setProgress i
        (s.progress[i].movedTo next) = w := by
      rw [State.setProgress, bump_progress, testDone_progress]
      rfl
    obtain ⟨hshort, horphan, hrecord, hothers, hleft⟩ := shortFrame_leaves (ledger_nodup hl) hw
    obtain ⟨hnone, hsome⟩ := offer_zero_reading_short cls hl hread hext rfl hw
    clear_value w
    cases hn : next with
    | none =>
      refine ⟨w.orphan, hnone hn, fun _ => rfl, fun _ h => (nomatch h), ?_, ?_, ?_, fun _ => ⟨?_, ?_⟩,
        fun _ h => (nomatch h)⟩
      · rw [orphan_counter]
        exact hshort
      · rw [State.orphan, bump_queue, setFlag_queue]
        exact hleft
      · rw [orphan_progress]
        exact hothers
      · rw [orphan_progress, hrecord, hn]
        rfl
      · rw [orphan_counter, if_pos rfl, horphan]
    | some id' =>
      obtain ⟨harmed, hoffer, htaken⟩ := hsome id' hn
      refine ⟨_, hoffer.trans htaken, fun h => (nomatch h), ?_, hshort, ?_, ?_, fun h => (nomatch h), ?_⟩
      · rintro _ ⟨⟩
        exact ⟨harmed, htaken⟩
      · intro e he hid
        obtain ⟨x, hx, hxid, hended, hreason⟩ := mem_withTaken_queue he
        rw [hended, hreason]
        exact hleft x hx (hxid.symm.trans hid)
      · intro j hj
        rw [progress_setProgress_of_ne hj]
        exact hothers j hj
      · rintro _ ⟨⟩
        rw [progress_setProgress_self, hrecord]

end Sys2Proof.Machine
end

section
/-! The release of RESET (R175). Settles O4. -/

namespace Sys2Proof.Machine

/-- The release of RESET reaches the released state, the model's own answers and commands kept. -/
theorem exec_resetRelease (b l : BitVec 3) {s : State} (h : s.resetAsserted = true) :
    exec (.resetRelease b l) s = .next { State.released b l with answers := s.answers, pending := s.pending } := by
  change execResetRelease b l s = _
  rw [execResetRelease, if_pos h]

/-- Settles O4: the pin-reset values, block by block. -/
theorem resetReleaseGivesEveryBlockItsResetValue : Obligations.ResetReleaseGivesEveryBlockItsResetValue := by
  intro b l s h
  refine ⟨_, exec_resetRelease b l h, ?_⟩
  have hsegs (i : SegIdx) : (State.released b l).segs[i] = SegRecord.empty := Vector.getElem_replicate i.2
  have hprogress (i : SegIdx) : (State.released b l).progress[i] = Progress.empty := Vector.getElem_replicate i.2
  have hwatch (i : Fin 4) : (State.released b l).watch[i] = WatchEntry.reset := Vector.getElem_replicate i.2
  have hcounter (c : Counter) : (State.released b l).counter c = 0 := Vector.getElem_replicate c.index.2
  have hstack (k : StackSlot) : (State.released b l).stack k = StackRecord.reset := by cases k <;> rfl
  refine ⟨rfl, rfl, rfl, rfl, rfl, rfl, rfl, rfl, hcounter, rfl, rfl, rfl, rfl, rfl, rfl, fun i => ?_, hprogress, rfl,
    rfl, rfl, rfl, rfl, hstack, rfl, hwatch, rfl, rfl, rfl, rfl, rfl, rfl⟩
  simp only [hsegs, SegRecord.empty]

end Sys2Proof.Machine
end

section
/-! OPEN_EXPOSURE: its parameters, its checks and its acceptance (R23, R24, R176). Settles O43. -/

namespace Sys2Proof.Machine

/-! ### The parameters (R176) -/

/-- A signed field of the structure that two lines hold. -/
theorem signedOf_bytesAt_block (first second : Line) (off : Nat) :
    signedOf 16 (bytesAt (block first second) off 2) = blockSigned first second off 2 := by
  rw [bytesAt_block, signedOf, blockSigned]
  simp only [← Nat.cast_lt (α := Int)]
  rfl

/-- A bit of a field lies in the byte of the structure that holds it. -/
theorem testBit_bytesAt (n off size : Nat) {i : Nat} (h : i < 8 * size) :
    (bytesAt n off size).testBit i = (bytesAt n (off + i / 8) 1).testBit (i % 8) := by
  have hlow : i % 8 < 8 * 1 := by omega
  have hplace : 8 * (off + i / 8) + i % 8 = 8 * off + i := by omega
  simp only [bytesAt, Nat.testBit_mod_two_pow, Nat.testBit_shiftRight, h, hlow, hplace, decide_true, Bool.true_and]

/-- The parameters of OPEN_EXPOSURE are those its block lays out. -/
theorem exposureParams_laidOut (first second : Line) :
    let p := exposureParams (block first second)
    let at_ := blockField first second
    p.slot = at_ 0x00 1 ∧ p.dx = blockSigned first second 0x02 2 ∧ p.dy = blockSigned first second 0x04 2
      ∧ p.E = at_ 0x06 2 ∧ p.stallTimeout = at_ 0x08 2
      ∧ ∀ i : SegIdx, p.segSet.getLsbD i.1 = (at_ (0x10 + i.1 / 8) 1).testBit (i.1 % 8) := by
  refine ⟨bytesAt_block .., signedOf_bytesAt_block .., signedOf_bytesAt_block .., bytesAt_block .., bytesAt_block ..,
    fun i => ?_⟩
  rw [← bytesAt_block, ← testBit_bytesAt _ _ 16 i.2, exposureParams, BitVec.getLsbD_ofNat, decide_eq_true i.2,
    Bool.true_and]

/-! ### The checks (R23) -/

/-- A slot's number names the slot. -/
@[simp] theorem slotOf_number (k : StackSlot) : slotOf k.number = some k := by
  cases k <;> rfl

/-- No slot has a number above 1. -/
theorem slotOf_eq_none {n : Nat} (h : 1 < n) : slotOf n = none := by
  rw [slotOf] <;> omega

/-- The lowest segment of a set that is not valid. -/
theorem lowestInvalid_eq_some {s : State} {m : BitVec 128} {i : SegIdx} (hi : m.getLsbD i.1 = true)
    (hinvalid : s.segs[i].valid = false)
    (hbelow : ∀ j : SegIdx, j < i → m.getLsbD j.1 = true → s.segs[j].valid = true) : s.lowestInvalid m = some i := by
  rw [State.lowestInvalid, List.find?_eq_some_iff_getElem]
  refine ⟨by rw [hi, hinvalid]; rfl, i.1, by simp, by simp, fun j hj => ?_⟩
  have hvalid := hbelow ⟨j, hj.trans i.2⟩ hj
  rw [List.getElem_finRange, Bool.not_and, Bool.not_not]
  cases hm : m.getLsbD j with
  | false => simp [hm]
  | true => simpa [hm] using hvalid hm

/-- With every segment of a set valid there is no lowest invalid one. -/
theorem lowestInvalid_eq_none {s : State} {m : BitVec 128}
    (h : ∀ i : SegIdx, m.getLsbD i.1 = true → s.segs[i].valid = true) : s.lowestInvalid m = none := by
  rw [State.lowestInvalid, List.find?_eq_none]
  intro i _ hopen
  rw [Bool.and_eq_true, Bool.not_eq_true'] at hopen
  obtain ⟨hm, hinvalid⟩ := hopen
  rw [h i hm] at hinvalid
  cases hinvalid

/-- Id 0 fails the first check. -/
theorem openExposureCheck_of_zero (s : State) (p : ExposureParams) :
    s.openExposureCheck 0 p = some (.badParameter, 256) := rfl

/-- A full queue fails the second check. -/
theorem openExposureCheck_of_full {s : State} {id : Nat} (hid : id ≠ 0) (hfull : 4 ≤ s.queue.length)
    (p : ExposureParams) : s.openExposureCheck id p = some (.queueFull, 4) := by
  rw [State.openExposureCheck, if_neg hid, if_pos (by exact hfull)]

/-- A queued id fails the third check. -/
theorem openExposureCheck_of_duplicate {s : State} {id : Nat} (hid : id ≠ 0) (hroom : s.queue.length < 4)
    (hdup : ∃ e ∈ s.queue, e.id = id) (p : ExposureParams) : s.openExposureCheck id p = some (.duplicateId, id) := by
  have hsome : (s.exposure? id).isSome = true := by simpa [State.exposure?, List.find?_isSome] using hdup
  rw [State.openExposureCheck, if_neg hid, if_neg (by exact Nat.not_le.2 hroom), if_pos hsome]

/-- The id and the queue pass the first three checks. -/
def State.takesExposure (s : State) (id : Nat) : Prop := id ≠ 0 ∧ s.queue.length < 4 ∧ ∀ e ∈ s.queue, e.id ≠ id

/-- A slot number above 1 fails the fourth check. -/
theorem openExposureCheck_of_no_slot {s : State} {id : Nat} (h : s.takesExposure id) {p : ExposureParams}
    (hslot : 1 < p.slot) : s.openExposureCheck id p = some (.badParameter, 257) := by
  obtain ⟨hid, hroom, hnew⟩ := h
  rw [State.openExposureCheck, if_neg hid, if_neg (by exact Nat.not_le.2 hroom),
    (exposure?_eq_none_iff s id).2 hnew, slotOf_eq_none hslot]
  rfl

/-- The checks that are left once the stack's slot is known. -/
theorem openExposureCheck_at_slot {s : State} {id : Nat} (h : s.takesExposure id) {p : ExposureParams} {k : StackSlot}
    (hslot : p.slot = k.number) :
    s.openExposureCheck id p
      = if (s.stack k).state ≠ .openState then some (.stackState, k.number)
        else if p.E = 0 then some (.badParameter, 258)
        else if p.dx < -8192 ∨ 8191 < p.dx then some (.badParameter, 259)
        else if p.dy < -8192 ∨ 8191 < p.dy then some (.badParameter, 260)
        else if p.segSet = 0 then some (.badParameter, 261)
        else (s.lowestInvalid p.segSet).map fun i => (.badParameter, i.1) := by
  obtain ⟨hid, hroom, hnew⟩ := h
  rw [State.openExposureCheck, if_neg hid, if_neg (by exact Nat.not_le.2 hroom),
    (exposure?_eq_none_iff s id).2 hnew, hslot, slotOf_number]
  rfl

/-! ### OPEN_EXPOSURE at its owner (R23, R24) -/

/-- A check that fails ends the command. -/
theorem runOpenExposure_of_refused {s : State} {c : CurrentCommand} {p : ExposureParams} {r : ResultCode} {d : Nat}
    (h : s.openExposureCheck c.arg.toNat p = some (r, d)) : s.runOpenExposure c p = s.finish c r d := by
  simp only [State.runOpenExposure, h]

/-- With no check that fails the exposure is opened. -/
theorem runOpenExposure_of_accepted {s : State} {c : CurrentCommand} {p : ExposureParams} {k : StackSlot}
    (h : s.openExposureCheck c.arg.toNat p = none) (hslot : p.slot = k.number) :
    s.runOpenExposure c p = (s.openExposure c.arg.toNat k p).finish c .ok (s.queue.length + 1) := by
  simp only [State.runOpenExposure, h, hslot, slotOf_number]

/-- The end of a command makes its own request, whether one was made before or not. -/
theorem finish_request (c : CurrentCommand) (r : ResultCode) (d : Nat) {v : State}
    (ha : v.attn = attention v.flags v.enables) : v.request.finish c r d = v.finish c r d := by
  have hrequested : v.request.finish c r d = _ := endCommand_eq _ _ r d v.request ha
  rw [hrequested, State.finish, endCommand_eq _ _ r d v ha]
  rfl

/-- OPEN_EXPOSURE at the second read of its parameters. -/
theorem openExposure_exec {s : State} {c : CurrentCommand} {first : Line} (second : Line) (hs : s.Running)
    (ha : s.Awaits c first) (hc : c.code = .openExposure) :
    exec (.parameterReadDone (.done second)) s
      = .next (s.commandLanded.runOpenExposure c (exposureParams (block first second))).settleRequests := by
  rw [exec_parameterReadDone_second second hs ha, State.handOver, hc]

/-- OPEN_EXPOSURE ends with nothing but its result recorded. -/
theorem openExposure_endedWith {c : CurrentCommand} (hc : c.code = .openExposure) (r : ResultCode) (d : Nat) {v : State}
    (hv : v.Settled) : EndedWith 5 c.tag r d v (v.finish c r d).settleRequests := by
  have hend := finish_endedWith c r d hv
  rwa [hc] at hend

/-- The state of an accepted OPEN_EXPOSURE, before the command ends: the exposure queued, its stack referred to once
more, and its IDLE records ARMED (R24). -/
def State.withOpened (id : Nat) (k : StackSlot) (p : ExposureParams) (s : State) : State :=
  ({ s with queue := s.queue ++ [newExposure id k p] }.setStack k
    { s.stack k with refCount := (s.stack k).refCount + 1 }).armIdle id p.segSet

/-- What an accepted OPEN_EXPOSURE changes. -/
theorem withOpened_frame (id : Nat) (k : StackSlot) (p : ExposureParams) (s : State) :
    s.withOpened id k p = { s.setStack k { s.stack k with refCount := (s.stack k).refCount + 1 } with
      queue := s.queue ++ [newExposure id k p], progress := (s.withOpened id k p).progress } := by
  cases k <;> rfl

/-- The IDLE records of the set are ARMED for the new exposure; the others stand. -/
theorem withOpened_progress (id : Nat) (k : StackSlot) (p : ExposureParams) (s : State) (i : SegIdx) :
    (s.withOpened id k p).progress[i]
      = if p.segSet.getLsbD i.1 = true ∧ s.progress[i].state = .idle then
          { s.progress[i] with state := .armed id, count := 0 }
        else s.progress[i] := by
  have hkeep : (s.withOpened id k p).progress[i]
      = if p.segSet.getLsbD i.1 && s.progress[i].state == .idle then s.progress[i].assign (some id)
        else s.progress[i] := by
    cases k <;> exact Vector.getElem_ofFn i.2
  rw [hkeep]
  simp only [Bool.and_eq_true, beq_iff_eq]
  rfl

/-- An accepted OPEN_EXPOSURE leaves the part settled. -/
theorem withOpened_settled (id : Nat) (k : StackSlot) (p : ExposureParams) {s : State} (hs : s.Settled) :
    (s.withOpened id k p).Settled := by
  rw [withOpened_frame]
  simpa only [State.Settled, setStack_requested, setStack_retirements, setStack_attn, setStack_flags,
    setStack_enables] using hs

/-- A check that fails ends OPEN_EXPOSURE with its result and detail, and nothing else changes. -/
theorem openExposure_refused {s : State} {c : CurrentCommand} {first second : Line} (hs : s.Running)
    (ha : s.Awaits c first) (hc : c.code = .openExposure) {r : ResultCode} {d : Nat}
    (h : s.commandLanded.openExposureCheck c.arg.toNat (exposureParams (block first second)) = some (r, d)) :
    ∃ u, exec (.parameterReadDone (.done second)) s = .next u ∧ EndedWith 5 c.tag r d s.commandLanded u := by
  have hexec := openExposure_exec second hs ha hc
  rw [runOpenExposure_of_refused h] at hexec
  exact ⟨_, hexec, openExposure_endedWith hc r d (commandLanded_settled hs.2)⟩

/-- Settles O43: each check in its order, then the acceptance. -/
theorem openExposureIsCheckedAndAccepted : Obligations.OpenExposureIsCheckedAndAccepted := by
  constructor
  · intro c first second s hs ha hc p at_ id ends ok1 ok2 ok3
    have htakes : ok3 → s.commandLanded.takesExposure id := fun ⟨⟨hid, hroom⟩, hnew⟩ => ⟨hid, hroom, hnew⟩
    refine ⟨exposureParams_laidOut first second, fun hid => openExposure_refused hs ha hc ?_,
      fun hid hfull => openExposure_refused hs ha hc ?_, fun ⟨hid, hroom⟩ hdup => openExposure_refused hs ha hc ?_,
      fun hok hslot => openExposure_refused hs ha hc ?_, fun k hok hslot => ?_⟩
    · have hzero : c.arg.toNat = 0 := Classical.not_not.1 hid
      rw [hzero]
      exact openExposureCheck_of_zero _ _
    · exact openExposureCheck_of_full hid hfull _
    · exact openExposureCheck_of_duplicate hid hroom hdup _
    · exact openExposureCheck_of_no_slot (htakes hok) hslot
    · have hslotted := openExposureCheck_at_slot (htakes hok) hslot
      refine ⟨fun hstate => openExposure_refused hs ha hc (hslotted.trans (if_pos hstate)), fun hopen => ?_⟩
      have hopened := hslotted.trans (if_neg (not_not.2 hopen))
      refine ⟨fun hE => openExposure_refused hs ha hc (hopened.trans (if_pos hE)), fun hE => ?_⟩
      have hexposed := hopened.trans (if_neg hE)
      refine ⟨fun hdx => openExposure_refused hs ha hc (hexposed.trans (if_pos hdx)), fun hdx0 hdx1 => ?_⟩
      have hacross := hexposed.trans (if_neg (by omega))
      refine ⟨fun hdy => openExposure_refused hs ha hc (hacross.trans (if_pos hdy)), fun hdy0 hdy1 => ?_⟩
      have hdown := hacross.trans (if_neg (by omega))
      refine ⟨fun hset => openExposure_refused hs ha hc (hdown.trans (if_pos hset)), fun i hi hinvalid hbelow => ?_⟩
      have hset : p.segSet ≠ 0 := fun h0 => by simp [h0] at hi
      refine openExposure_refused hs ha hc ((hdown.trans (if_neg hset)).trans ?_)
      rw [lowestInvalid_eq_some (s := s.commandLanded) hi hinvalid hbelow]
      rfl
  · intro c first second k s hs ha hc p hid hroom hnew hslot hopen hE hdx0 hdx1 hdy0 hdy1 hset hvalid
    have hcheck : s.commandLanded.openExposureCheck c.arg.toNat p = none := by
      have hopened : ¬ (s.commandLanded.stack k).state ≠ .openState := not_not.2 hopen
      rw [openExposureCheck_at_slot (s := s.commandLanded) ⟨hid, hroom, hnew⟩ hslot, if_neg hopened, if_neg hE,
        if_neg (by omega), if_neg (by omega), if_neg hset, lowestInvalid_eq_none (s := s.commandLanded) hvalid]
      rfl
    have hv := withOpened_settled c.arg.toNat k p (commandLanded_settled hs.2)
    refine ⟨s.commandLanded.withOpened c.arg.toNat k p, _, ?_, withOpened_frame _ k p _,
      withOpened_progress _ k p s.commandLanded, openExposure_endedWith hc .ok (s.queue.length + 1) hv⟩
    rw [openExposure_exec second hs ha hc, runOpenExposure_of_accepted hcheck hslot, ← finish_request _ _ _ hv.2.2]
    rfl

end Sys2Proof.Machine
end

section
/-! The overscan accumulator at its pixels (R51 to R54). Settles O21. -/

namespace Sys2Proof.Machine

/-! ### A setting event and a count as changes of the state (R166, R167, R170) -/

/-- A setting event sets its flag, the attention line following. -/
theorem setFlag_flagsSet {s : State} (f : Flag) (ha : s.attn = attention s.flags s.enables) :
    FlagsSet [f] s (s.setFlag f) := by
  rw [setFlag_eq f s ha]
  exact ⟨rfl, rfl⟩

/-- A count raises its own counter alone. -/
theorem bump_countersRaised (c : Counter) (s : State) : CountersRaised [c] s (s.bump c) := by
  intro k
  rw [counter_bump]
  by_cases hk : k = c
  · subst hk
    simp
  · simp [hk]

/-! ### A partial row is discarded (R52) -/

/-- What the discard of a row changes: a flag, the attention line with it, a counter, and the request of a rewrite when
the flag was clear. -/
theorem loseRow_eq {s : State} (ha : s.attn = attention s.flags s.enables) :
    s.loseRow = { s with
      flags := s.loseRow.flags, attn := s.loseRow.attn, counters := s.loseRow.counters
      requested := s.requested || !s.flagSet .biasRowLost } := by
  rw [State.loseRow, setFlag_eq .biasRowLost s ha]
  rfl

/-- The discard of a row sets BIAS_ROW_LOST. -/
theorem loseRow_flagsSet {s : State} (ha : s.attn = attention s.flags s.enables) :
    FlagsSet [.biasRowLost] s s.loseRow := by
  simpa only [State.loseRow, FlagsSet, bump_flags, bump_attn, bump_enables] using setFlag_flagsSet .biasRowLost ha

/-- The discard of a row raises the bias-rows-lost counter. -/
theorem loseRow_countersRaised (s : State) : CountersRaised [.biasRowsLost] s s.loseRow := by
  simpa only [State.loseRow, CountersRaised, State.counter, setFlag_counters]
    using bump_countersRaised .biasRowsLost (s.setFlag .biasRowLost)

/-! ### An overscan pixel at the accumulator (R51, R52) -/

/-- A pixel at an empty accumulator begins its row. -/
theorem gather_of_empty {s : State} {i : SegIdx} (row raw : Nat) (h : s.progress[i].acc = none) :
    s.gather i row raw = s.setProgress i (s.progress[i].withRow s.segs[i] (Accumulator.start row raw)) := by
  simp only [State.gather, h]

/-- A pixel of the row in hand joins it. -/
theorem gather_of_same_row {s : State} {i : SegIdx} {a : Accumulator} {row : Nat} (raw : Nat)
    (h : s.progress[i].acc = some a) (hrow : a.row = row) :
    s.gather i row raw = s.setProgress i (s.progress[i].withRow s.segs[i] (a.add raw)) := by
  simp only [State.gather, h, if_pos hrow]

/-- A pixel of another row discards the row in hand and begins its own. -/
theorem gather_of_other_row {s : State} {i : SegIdx} {a : Accumulator} {row : Nat} (raw : Nat)
    (h : s.progress[i].acc = some a) (hrow : a.row ≠ row) :
    s.gather i row raw = s.loseRow.setProgress i (s.progress[i].withRow s.segs[i] (Accumulator.start row raw)) := by
  simp only [State.gather, h, if_neg hrow]

/-- Settles O21: the accumulator empty, holding the pixel's row, and holding another. -/
theorem overscanPixelIsGathered : Obligations.OverscanPixelIsGathered := by
  intro i row raw s ha p r fresh after u
  refine ⟨fun hempty => gather_of_empty row raw hempty, fun a hacc hrow => ?_, fun a hacc hrow => ?_⟩
  · subst hrow
    exact gather_of_same_row raw hacc rfl
  · have hu : u = s.loseRow.setProgress i (p.withRow r fresh) := gather_of_other_row raw hacc hrow
    rw [hu]
    refine ⟨?_, loseRow_flagsSet ha, loseRow_countersRaised s⟩
    exact congrArg (State.setProgress i (p.withRow r fresh)) (loseRow_eq ha)

end Sys2Proof.Machine
end

section
/-! The roundings of 00_scope.md and the contribution arithmetic (R68 to R71). Settles O24. -/

namespace Sys2Proof.Machine

/-! ### Rounding to nearest (00_scope.md) -/

/-- Rounding with ties upward: `d` times the result is within half of `d` of `x`, the tie taken upward. -/
theorem roundUp_bounds (x : Int) {d : Nat} (hd : 0 < d) :
    2 * (d : Int) * roundUp x d ≤ 2 * x + d ∧ 2 * x + d < 2 * (d : Int) * (roundUp x d + 1) := by
  have hpos : 0 < 2 * (d : Int) := by omega
  exact ⟨Int.mul_ediv_self_le hpos.ne', Int.lt_mul_ediv_self_add hpos |>.trans_eq (mul_add_one _ _).symm⟩

theorem roundUp_nonneg {x : Int} (hx : 0 ≤ x) (d : Nat) : 0 ≤ roundUp x d :=
  Int.ediv_nonneg (by omega) (by omega)

/-- A whole bound on the quotient bounds the rounded quotient. -/
theorem roundUp_le {x m : Int} {d : Nat} (hd : 0 < d) (hx : x ≤ m * d) : roundUp x d ≤ m := by
  refine Int.lt_add_one_iff.mp (Int.ediv_lt_of_lt_mul (by omega) ?_)
  calc 2 * x + d < 2 * (m * d) + 2 * d := by omega
    _ = (m + 1) * (2 * d) := by ring

theorem roundUp_zero {d : Nat} (hd : 0 < d) : roundUp 0 d = 0 :=
  Int.ediv_eq_zero_of_lt (by omega) (by omega)

/-- Away from zero is upward on the values that are not negative. -/
theorem roundAway_of_nonneg {x : Int} (hx : 0 ≤ x) (d : Nat) : roundAway x d = roundUp x d := if_pos hx

/-- Away from zero mirrors upward on the values that are not positive. -/
theorem roundAway_of_nonpos {x : Int} (hx : x ≤ 0) {d : Nat} (hd : 0 < d) : roundAway x d = -roundUp (-x) d := by
  rcases hx.eq_or_lt with rfl | hneg
  · rw [roundAway_of_nonneg le_rfl, neg_zero, roundUp_zero hd, neg_zero]
  · exact if_neg hneg.not_ge

/-- Rounding away from zero treats the two signs alike. -/
theorem roundAway_neg (x : Int) {d : Nat} (hd : 0 < d) : roundAway (-x) d = -roundAway x d := by
  rcases le_total 0 x with h | h
  · rw [roundAway_of_nonpos (neg_nonpos.mpr h) hd, neg_neg, roundAway_of_nonneg h]
  · rw [roundAway_of_nonneg (neg_nonneg.mpr h), roundAway_of_nonpos h hd, neg_neg]

/-- A whole bound on the size of the quotient bounds the size of the rounded quotient. -/
theorem abs_roundAway_le {x m : Int} {d : Nat} (hd : 0 < d) (hx : |x| ≤ m * d) : |roundAway x d| ≤ m := by
  rcases le_total 0 x with h | h
  · rw [roundAway_of_nonneg h, abs_of_nonneg (roundUp_nonneg h d)]
    exact roundUp_le hd (abs_of_nonneg h ▸ hx)
  · rw [roundAway_of_nonpos h hd, abs_neg, abs_of_nonneg (roundUp_nonneg (neg_nonneg.mpr h) d)]
    exact roundUp_le hd (abs_of_nonpos h ▸ hx)

/-! ### The factors of the product value (R68, R69) -/

theorem abs_debiased_le {R B : Nat} (hR : R ≤ 65535) (hB : B ≤ 1048560) : |debiased R B| ≤ 2 ^ 20 := by
  rw [debiased, abs_le]
  omega

theorem combinedFactor_bounds (G E : Nat) :
    2048 * combinedFactor G E ≤ 2 * (G * E : Nat) + 1024
      ∧ 2 * (G * E : Nat) + 1024 < 2048 * (combinedFactor G E + 1) := by
  rw [Nat.cast_mul]
  exact roundUp_bounds (G * E) (d := 1024) (by decide)

theorem combinedFactor_nonneg (G E : Nat) : 0 ≤ combinedFactor G E := roundUp_nonneg (by positivity) 1024

theorem combinedFactor_le {G E : Nat} (hG : G ≤ 65535) (hE : E ≤ 65535) : combinedFactor G E ≤ 4194176 := by
  have hGE : G * E ≤ 65535 * 65535 := Nat.mul_le_mul hG hE
  have hC := (combinedFactor_bounds G E).1
  omega

/-! ### The product value (R70) -/

/-- Twenty bits of debiased value, 22 of combined factor and 16 of flat value, of which 32 are rounded off. -/
theorem abs_productValue_le {D C : Int} {F : Nat} (hD : |D| ≤ 2 ^ 20) (hC₀ : 0 ≤ C) (hC : C ≤ 2 ^ 22) (hF : F ≤ 2 ^ 16) :
    |productValue D C F| ≤ 2 ^ 26 := by
  refine abs_roundAway_le (by decide) ?_
  calc |D * C * F| = |D| * C * F := by rw [abs_mul, abs_mul, abs_of_nonneg hC₀, Nat.abs_cast]
    _ ≤ 2 ^ 20 * 2 ^ 22 * 2 ^ 16 := by gcongr; exact_mod_cast hF
    _ = 2 ^ 26 * (2 ^ 32 : Nat) := by norm_num

theorem productValue_of_nonneg {D C : Int} (F : Nat) (hD : 0 ≤ D) (hC : 0 ≤ C) :
    2 ^ 33 * productValue D C F ≤ 2 * (D * C * F) + 2 ^ 32
      ∧ 2 * (D * C * F) + 2 ^ 32 < 2 ^ 33 * (productValue D C F + 1) ∧ 0 ≤ productValue D C F := by
  have hx : 0 ≤ D * C * F := by positivity
  rw [productValue, roundAway_of_nonneg hx]
  obtain ⟨hlo, hhi⟩ := roundUp_bounds (D * C * F) (d := 2 ^ 32) (by decide)
  exact ⟨hlo, hhi, roundUp_nonneg hx _⟩

/-- The product value changes its sign with the debiased value. -/
theorem productValue_neg (D C : Int) (F : Nat) : productValue (-D) C F = -productValue D C F := by
  rw [productValue, neg_mul, neg_mul, roundAway_neg _ (by decide), productValue]

theorem productValue_of_nonpos {D C : Int} (F : Nat) (hD : D ≤ 0) (hC : 0 ≤ C) :
    2 ^ 33 * -productValue D C F ≤ 2 * -(D * C * F) + 2 ^ 32
      ∧ 2 * -(D * C * F) + 2 ^ 32 < 2 ^ 33 * (-productValue D C F + 1) ∧ productValue D C F ≤ 0 := by
  have hmirror := productValue_of_nonneg F (neg_nonneg.mpr hD) hC
  rwa [productValue_neg, neg_mul, neg_mul, neg_nonneg] at hmirror

/-! ### The clamp (R71) -/

theorem clampQe_of_mem {x : Int} (hlo : -8388608 ≤ x) (hhi : x ≤ 8388607) : clampQe x = x := by
  rw [clampQe, clamp, if_neg hlo.not_gt, if_neg hhi.not_gt]

theorem clampQe_of_lt {x : Int} (h : x < -8388608) : clampQe x = -8388608 := if_pos h

theorem clampQe_of_gt {x : Int} (h : 8388607 < x) : clampQe x = 8388607 := by
  rw [clampQe, clamp, if_neg (by omega), if_pos h]

/-- Settles O24: the roundings by their bounds, the product by the sign of the debiased value, and the clamp. -/
theorem contributionArithmetic : Obligations.ContributionArithmetic := by
  intro R B G E F hR hB _ hG _ hE hF D C P V
  obtain ⟨hClo, hChi⟩ := combinedFactor_bounds G E
  have hC₀ : 0 ≤ C := combinedFactor_nonneg G E
  have hC : C ≤ 4194176 := combinedFactor_le hG hE
  have hP : |P| ≤ 2 ^ 26 := abs_productValue_le (abs_debiased_le hR hB) hC₀ (hC.trans (by decide)) (hF.trans (by decide))
  obtain ⟨hPlo, hPhi⟩ := abs_le.mp hP
  exact ⟨rfl, hClo, hChi, hC₀, hC, fun hD => productValue_of_nonneg F hD hC₀,
    fun hD => productValue_of_nonpos F hD.le hC₀, hPlo, hPhi,
    fun ⟨hlo, hhi⟩ => clampQe_of_mem hlo hhi, clampQe_of_lt, clampQe_of_gt⟩

end Sys2Proof.Machine
end

section
/-! Cells and lanes: the bytes of a cell (R76, R176), a contribution at its cell (R77 to R81), and the read-modify-write of
a line (R87). Settles O29. -/

namespace Sys2Proof.Machine

/-! ### Bytes within a number (00_scope.md) -/

/-- A value placed among the bytes of a number. -/
theorem placeAt_eq (off size v : Nat) : placeAt off size v = 2 ^ (8 * off) * (v % 2 ^ (8 * size)) := by
  rw [placeAt, Nat.shiftLeft_eq, Nat.mul_comm]

/-- The bytes above those of a number `r`. -/
theorem bytesAt_add_mul {r off : Nat} (hr : r < 2 ^ (8 * off)) (x size : Nat) :
    bytesAt (r + 2 ^ (8 * off) * x) off size = x % 2 ^ (8 * size) := by
  rw [bytesAt_eq, Nat.add_mul_div_left _ _ (by positivity), Nat.div_eq_of_lt hr, Nat.zero_add]

/-- Bytes below bit `k` are those of the number modulo `2 ^ k`. -/
theorem bytesAt_mod {off size k : Nat} (h : 8 * (off + size) ≤ k) (n : Nat) :
    bytesAt (n % 2 ^ k) off size = bytesAt n off size := by
  refine Nat.eq_of_testBit_eq fun i => ?_
  simp only [bytesAt, Nat.testBit_mod_two_pow, Nat.testBit_shiftRight]
  by_cases hi : i < 8 * size
  · have hk : 8 * off + i < k := by omega
    simp [hi, hk]
  · simp [hi]

/-- Bytes from bit `k` on are those of the number divided by `2 ^ k`. -/
theorem bytesAt_div {off k : Nat} (h : k ≤ 8 * off) (n size : Nat) :
    bytesAt n off size = n / 2 ^ k / 2 ^ (8 * off - k) % 2 ^ (8 * size) := by
  rw [bytesAt_eq, Nat.div_div_eq_div_mul, ← Nat.pow_add, Nat.add_sub_cancel' h]

/-! ### Signed fields (00_scope.md) -/

/-- Writing a value in 32 bits and reading it back wraps it. -/
theorem signedOf_unsignedOf_32 (x : Int) : signedOf 32 (unsignedOf 32 x) = (x + 2 ^ 31) % 2 ^ 32 - 2 ^ 31 := by
  rw [signedOf, unsignedOf]
  split <;> omega

/-- A value in the range of 24 bits reads back. -/
theorem signedOf_unsignedOf_24 {x : Int} (hlo : -8388608 ≤ x) (hhi : x ≤ 8388607) : signedOf 24 (unsignedOf 24 x) = x := by
  rw [signedOf, unsignedOf]
  split <;> omega

theorem unsignedOf_lt (bits : Nat) (x : Int) : unsignedOf bits x < 2 ^ bits := by
  have hpos : (0 : Int) < 2 ^ bits := by positivity
  have := Int.emod_lt_of_pos x hpos
  rw [unsignedOf, Int.toNat_lt (Int.emod_nonneg x hpos.ne')]
  exact_mod_cast this

/-! ### The bytes of a cell (R76, R176) -/

/-- The top byte of a cell: count, SAT and DEG. -/
def Cell.topByte (c : Cell) : Nat := c.count % 64 + (if c.sat then 64 else 0) + (if c.deg then 128 else 0)

theorem topByte_lt (c : Cell) : c.topByte < 2 ^ 8 := by
  rw [Cell.topByte]
  split <;> split <;> omega

/-- The three fields of a cell, one above the other. -/
theorem cellBytes_eq (c : Cell) :
    cellBytes c = unsignedOf 32 c.sum + 2 ^ 32 * unsignedOf 24 c.peak + 2 ^ 56 * c.topByte := by
  have hsum : unsignedOf 32 c.sum % 2 ^ (8 * 4) = unsignedOf 32 c.sum := Nat.mod_eq_of_lt (unsignedOf_lt 32 c.sum)
  have hpeak : unsignedOf 24 c.peak % 2 ^ (8 * 3) = unsignedOf 24 c.peak := Nat.mod_eq_of_lt (unsignedOf_lt 24 c.peak)
  have htop : c.topByte % 2 ^ (8 * 1) = c.topByte := Nat.mod_eq_of_lt (topByte_lt c)
  rw [cellBytes, ← Cell.topByte, placeAt_eq, placeAt_eq, placeAt_eq, hsum, hpeak, htop]
  norm_num

theorem cellBytes_lt (c : Cell) : cellBytes c < 2 ^ 64 := by
  have hsum := unsignedOf_lt 32 c.sum
  have hpeak := unsignedOf_lt 24 c.peak
  have htop := topByte_lt c
  rw [cellBytes_eq]
  omega

theorem bytesAt_cellBytes_sum (c : Cell) : bytesAt (cellBytes c) 0 4 = unsignedOf 32 c.sum := by
  have hsum := unsignedOf_lt 32 c.sum
  rw [bytesAt_eq, cellBytes_eq]
  omega

theorem bytesAt_cellBytes_peak (c : Cell) : bytesAt (cellBytes c) 4 3 = unsignedOf 24 c.peak := by
  have hsum := unsignedOf_lt 32 c.sum
  have hpeak := unsignedOf_lt 24 c.peak
  rw [bytesAt_eq, cellBytes_eq]
  omega

theorem bytesAt_cellBytes_top (c : Cell) : bytesAt (cellBytes c) 7 1 = c.topByte := by
  have hsum := unsignedOf_lt 32 c.sum
  have hpeak := unsignedOf_lt 24 c.peak
  have htop := topByte_lt c
  rw [bytesAt_eq, cellBytes_eq]
  omega

/-- A bit of a cell's top byte, as a bit of the cell. -/
theorem testBit_cellBytes_top (c : Cell) {i : Nat} (hi : i < 8) : (cellBytes c).testBit (56 + i) = c.topByte.testBit i := by
  rw [← bytesAt_cellBytes_top, bytesAt, Nat.testBit_mod_two_pow, Nat.testBit_shiftRight]
  simp [hi]

/-- The top byte holds the count below SAT and DEG. -/
theorem topByte_fields (c : Cell) :
    c.topByte % 64 = c.count % 64 ∧ c.topByte.testBit 6 = c.sat ∧ c.topByte.testBit 7 = c.deg := by
  rw [Nat.testBit_eq_decide_div_mod_eq, Nat.testBit_eq_decide_div_mod_eq, Cell.topByte]
  cases c.sat <;> cases c.deg <;> simp <;> omega

/-- A cell in the ranges of its fields reads back. -/
theorem cellOf_cellBytes {c : Cell} (hslo : -2147483648 ≤ c.sum) (hshi : c.sum ≤ 2147483647)
    (hplo : -8388608 ≤ c.peak) (hphi : c.peak ≤ 8388607) (hcount : c.count ≤ 63) : cellOf (cellBytes c) = c := by
  obtain ⟨hc, hsat, hdeg⟩ := topByte_fields c
  have hsum : signedOf 32 (unsignedOf 32 c.sum) = c.sum := by
    rw [signedOf_unsignedOf_32]
    omega
  rw [cellOf, bytesAt_cellBytes_sum, bytesAt_cellBytes_peak, bytesAt_cellBytes_top, hc, hsum,
    signedOf_unsignedOf_24 hplo hphi, testBit_cellBytes_top c (i := 6) (by decide),
    testBit_cellBytes_top c (i := 7) (by decide), hsat, hdeg, Nat.mod_eq_of_lt (by omega)]

/-! ### A contribution at its cell (R77 to R81) -/

/-- An ADD below the depth cap is counted. -/
theorem applyTo_add_of_lt (V : Int) (degraded : Bool) {c : Cell} (h : c.count < 63) :
    applyTo (.add V degraded) c
      = ({ sum := (c.sum + V + 2 ^ 31) % 2 ^ 32 - 2 ^ 31, peak := if c.count = 0 then V else max c.peak V
           count := c.count + 1, sat := c.sat, deg := c.deg || degraded }, .placed degraded) := by
  rw [applyTo, if_pos (by exact h), Cell.addValue, signedOf_unsignedOf_32]

/-- An ADD at the depth cap overflows. -/
theorem applyTo_add_of_ge (V : Int) (degraded : Bool) {c : Cell} (h : 63 ≤ c.count) :
    applyTo (.add V degraded) c = (c, .overflow) :=
  if_neg h.not_gt

/-! ### The lanes of a line (R82) -/

/-- A line and the same line with a lane replaced, cut at that lane: they differ in its 64 bits alone. -/
theorem setLane_split (l : Line) (j : Fin 4) (v : Nat) :
    ∃ r q, r < 2 ^ (8 * (8 * j.1)) ∧ l.toNat = r + 2 ^ (8 * (8 * j.1)) * (laneOf l j + 2 ^ 64 * q)
      ∧ (setLane l j v).toNat = (r + 2 ^ (8 * (8 * j.1)) * (v % 2 ^ 64 + 2 ^ 64 * q)) % 2 ^ 256 := by
  set p := 2 ^ (8 * (8 * j.1)) with hp
  have hlane : laneOf l j = l.toNat / p % 2 ^ 64 := bytesAt_eq ..
  refine ⟨l.toNat % p, l.toNat / p / 2 ^ 64, Nat.mod_lt _ (by positivity), ?_, ?_⟩
  · rw [hlane, Nat.mod_add_div, Nat.mod_add_div]
  · have hn : l.toNat = l.toNat % p + p * (laneOf l j + 2 ^ 64 * (l.toNat / p / 2 ^ 64)) := by
      rw [hlane, Nat.mod_add_div, Nat.mod_add_div]
    have hsmall : laneOf l j % 2 ^ (8 * 8) = laneOf l j := by rw [hlane, Nat.mod_mod]
    have hcut : l.toNat - p * laneOf l j = l.toNat % p + p * (2 ^ 64 * (l.toNat / p / 2 ^ 64)) := by
      rw [Nat.mul_add] at hn
      omega
    rw [setLane, BitVec.toNat_ofNat, placeAt_eq, placeAt_eq, hsmall, ← hp, hcut, Nat.mul_add, Nat.add_right_comm,
      Nat.add_assoc]

/-- The replaced lane holds the new value. -/
theorem laneOf_setLane_self (l : Line) (j : Fin 4) (v : Nat) : laneOf (setLane l j v) j = v % 2 ^ 64 := by
  obtain ⟨r, q, hr, -, hset⟩ := setLane_split l j v
  rw [laneOf, hset, bytesAt_mod (by omega), bytesAt_add_mul hr]
  simp

/-- The other lanes stay. -/
theorem laneOf_setLane_of_ne {i j : Fin 4} (h : i ≠ j) (l : Line) (v : Nat) : laneOf (setLane l j v) i = laneOf l i := by
  obtain ⟨r, q, hr, hl, hset⟩ := setLane_split l j v
  have hne : i.1 ≠ j.1 := fun h' => h (Fin.ext h')
  rw [laneOf, laneOf, hset, bytesAt_mod (by omega), hl]
  obtain hlt | hgt := Nat.lt_or_gt_of_ne hne
  · have hbelow : 8 * (8 * i.1 + 8) ≤ 8 * (8 * j.1) := by omega
    rw [← bytesAt_mod hbelow, ← bytesAt_mod hbelow (r + _ * (laneOf l j + _)), Nat.add_mul_mod_self_left,
      Nat.add_mul_mod_self_left]
  · have hquot {x : Nat} (hx : x < 2 ^ 64) :
        (r + 2 ^ (8 * (8 * j.1)) * (x + 2 ^ 64 * q)) / 2 ^ (8 * (8 * j.1) + 64) = q := by
      rw [Nat.pow_add, ← Nat.div_div_eq_div_mul, Nat.add_mul_div_left _ _ (by positivity), Nat.div_eq_of_lt hr]
      omega
    have habove : 8 * (8 * j.1) + 64 ≤ 8 * (8 * i.1) := by omega
    rw [bytesAt_div habove, bytesAt_div habove, hquot (Nat.mod_lt _ (by decide)),
      hquot (by rw [laneOf, bytesAt_eq]; exact Nat.mod_lt _ (by decide))]

/-! ### The read-modify-write of a line (R87) -/

/-- The eight bytes of a lane after the read-modify-write. -/
def laneAfter (lane : Option Contribution) (b : Nat) : Nat :=
  lane.elim b fun c => cellBytes (applyTo c.kind (cellOf b)).1

/-- The fate kept for the contribution of a lane, with its exposure. -/
def keptFate (lane : Option Contribution) (b : Nat) : Option (Nat × Fate) :=
  lane.map fun c => (c.exposure, (applyTo c.kind (cellOf b)).2)

/-- One lane applied changes its own eight bytes, as its contribution says. -/
theorem laneOf_applyLane (lane : Option Contribution) (i j : Fin 4) (image : Line) (fates : List (Nat × Fate)) :
    laneOf (applyLane lane j image fates).1 i = if i = j then laneAfter lane (laneOf image i) else laneOf image i := by
  cases lane with
  | none => simp [applyLane, laneAfter]
  | some c =>
    simp only [applyLane, laneAfter, Option.elim]
    split
    · next h => rw [h, laneOf_setLane_self, Nat.mod_eq_of_lt (cellBytes_lt _)]
    · next h => exact laneOf_setLane_of_ne h ..

/-- One lane applied keeps its contribution's fate. -/
theorem applyLane_fates (lane : Option Contribution) (j : Fin 4) (image : Line) (fates : List (Nat × Fate)) :
    (applyLane lane j image fates).2 = fates ++ (keptFate lane (laneOf image j)).toList := by
  cases lane <;> simp [applyLane, keptFate]

/-- Some lanes applied, no lane twice: each changes its own bytes, and the fates are kept in order. -/
theorem foldl_applyLane (lanes : Vector (Option Contribution) 4) {js : List (Fin 4)} (hnd : js.Nodup) (image : Line)
    (fates : List (Nat × Fate)) :
    let r := js.foldl (fun r j => applyLane lanes[j] j r.1 r.2) (image, fates)
    (∀ i : Fin 4, laneOf r.1 i = if i ∈ js then laneAfter lanes[i] (laneOf image i) else laneOf image i)
      ∧ r.2 = fates ++ js.filterMap fun j => keptFate lanes[j] (laneOf image j) := by
  induction js generalizing image fates with
  | nil => simp
  | cons j rest ih =>
    obtain ⟨hj, hrest⟩ := List.nodup_cons.mp hnd
    obtain ⟨hlanes, hfates⟩ := ih hrest (applyLane lanes[j] j image fates).1 (applyLane lanes[j] j image fates).2
    have hother {i : Fin 4} (hi : i ∈ rest) : i ≠ j := fun h => hj (h ▸ hi)
    refine ⟨fun i => (hlanes i).trans ?_, hfates.trans ?_⟩
    · by_cases hi : i ∈ rest
      · simp [hi, laneOf_applyLane, hother hi]
      · by_cases hij : i = j <;> simp [hi, hij, laneOf_applyLane, hj]
    · have hsame : rest.filterMap (fun m => keptFate lanes[m] (laneOf (applyLane lanes[j] j image fates).1 m))
          = rest.filterMap fun m => keptFate lanes[m] (laneOf image m) :=
        List.filterMap_congr fun m hm => by rw [laneOf_applyLane, if_neg (hother hm)]
      rw [hsame, applyLane_fates, List.append_assoc]
      rw [List.filterMap_cons]
      cases keptFate lanes[j] (laneOf image j) <;> rfl

theorem laneOf_applyLanes (lanes : Vector (Option Contribution) 4) (line : Line) (j : Fin 4) :
    laneOf (applyLanes lanes line).1 j = laneAfter lanes[j] (laneOf line j) := by
  have h := (foldl_applyLane lanes (List.nodup_finRange 4) line []).1 j
  rwa [if_pos (List.mem_finRange j)] at h

theorem applyLanes_fates (lanes : Vector (Option Contribution) 4) (line : Line) :
    (applyLanes lanes line).2 = (List.finRange 4).filterMap fun j => keptFate lanes[j] (laneOf line j) :=
  (foldl_applyLane lanes (List.nodup_finRange 4) line []).2

/-- A number of four bits, bit by bit. -/
theorem getLsbD_ofNat_bits (a b c d : Bool) :
    let w := BitVec.ofNat 4 ((if a then 1 else 0) + (if b then 2 else 0) + (if c then 4 else 0) + (if d then 8 else 0))
    w.getLsbD 0 = a ∧ w.getLsbD 1 = b ∧ w.getLsbD 2 = c ∧ w.getLsbD 3 = d := by
  revert a b c d
  decide

/-- The mask names the occupied lanes. -/
theorem getLsbD_laneMask (lanes : Vector (Option Contribution) 4) (j : Fin 4) :
    (laneMask lanes).getLsbD j.1 = lanes[j].isSome := by
  obtain ⟨h0, h1, h2, h3⟩ := getLsbD_ofNat_bits lanes[0].isSome lanes[1].isSome lanes[2].isSome lanes[3].isSome
  match j with
  | 0 => exact h0
  | 1 => exact h1
  | 2 => exact h2
  | 3 => exact h3

/-- Settles O29: the bytes of a cell, the three contributions, and the lanes of a line one by one. -/
theorem occupiedLanesAreAppliedToTheirCells : Obligations.OccupiedLanesAreAppliedToTheirCells := by
  refine ⟨fun c hslo hshi hplo hphi hcount => cellOf_cellBytes hslo hshi hplo hphi hcount,
    fun V degraded c => ⟨applyTo_add_of_lt V degraded, applyTo_add_of_ge V degraded, rfl⟩,
    fun lanes line => ⟨fun j => ?_, applyLanes_fates lanes line, getLsbD_laneMask lanes⟩⟩
  rw [laneOf_applyLanes]
  cases lanes[j] <;> rfl

end Sys2Proof.Machine
end

section
/-! The terminations of the placement engine's transfers (R86 to R90, R94, R96). Settles O30. -/

namespace Sys2Proof.Machine

/-! ### Tally reports to the queued exposures (R30, R94) -/

/-- A tally report for the exposure of an id, to one queued exposure. -/
def Exposure.reportedTo (id : Nat) (fate : Fate) (x : Exposure) : Exposure := if x.id = id then x.report fate else x

/-- The state after every report of a list. -/
def State.withReports (fates : List (Nat × Fate)) (s : State) : State :=
  { s with queue := s.queue.map fun x => fates.foldl (fun y f => y.reportedTo f.1 f.2) x }

/-- A report made ahead of the others is the first of them. -/
theorem withReports_cons (f : Nat × Fate) (fates : List (Nat × Fate)) (s : State) :
    (s.reportFate f.1 f.2).withReports fates = s.withReports (f :: fates) := by
  simp only [State.withReports, State.reportFate, State.updateExposure, List.map_map]
  rfl

/-- The reports of an entry that is lost, one after the other. -/
theorem foldl_reportFate_lost (ids : List Nat) (s : State) :
    ids.foldl (fun s id => s.reportFate id .lost) s = s.withReports (ids.map fun id => (id, .lost)) := by
  induction ids generalizing s with
  | nil => simp [State.withReports]
  | cons id rest ih => rw [List.foldl_cons, ih, List.map_cons, ← withReports_cons]

/-- A report raises the tally of its fate and lowers the outstanding count. -/
theorem report_of_pos {x : Exposure} (fate : Fate) (h : 0 < x.outstanding) :
    x.report fate = { x with tallies := x.tallies.count fate, outstanding := x.outstanding - 1 } :=
  if_neg h.ne'

/-! ### Overflows (R81, R88, R170) -/

/-- One overflow reported: DEPTH_OVERFLOW is set and its counter rises (R88). -/
def State.countOverflow (s : State) : State := (s.setFlag .depthOverflow).bump .depthOverflows

/-- The overflows among some kept fates. -/
def overflowsIn (fates : List (Nat × Fate)) : Nat := (fates.filter fun f => f.2 = .overflow).length

/-- A setting event goes with a change that takes no part in the flags, the attention line and the request. -/
theorem setFlag_comm {g : State → State} {f : Flag} {s : State} (hset : (g s).flagSet f = s.flagSet f)
    (hg : g { s with flags := s.flags ||| f.mask, attn := attention (s.flags ||| f.mask) s.enables, requested := true }
      = { g s with
          flags := (g s).flags ||| f.mask, attn := attention ((g s).flags ||| f.mask) (g s).enables
          requested := true }) :
    g (s.setFlag f) = (g s).setFlag f := by
  rw [State.setFlag, State.setFlag, hset]
  split
  · rfl
  · exact hg

/-- The order of the reports and of an overflow's count does not matter. -/
theorem countOverflow_withReports (fates : List (Nat × Fate)) (s : State) :
    s.countOverflow.withReports fates = (s.withReports fates).countOverflow :=
  congrArg (State.bump .depthOverflows) (setFlag_comm (g := State.withReports fates) rfl rfl)

/-- An overflow kept is reported and counted. -/
theorem reportKept_of_overflow {f : Nat × Fate} (h : f.2 = .overflow) (s : State) :
    s.reportKept f = (s.reportFate f.1 f.2).countOverflow := by
  simp only [State.reportKept, h]
  rfl

/-- Any other fate kept is reported alone. -/
theorem reportKept_of_ne_overflow {f : Nat × Fate} (h : f.2 ≠ .overflow) (s : State) :
    s.reportKept f = s.reportFate f.1 f.2 := by
  rw [State.reportKept]
  split
  · next h' => exact absurd h' h
  · rfl

/-- The kept fates reported one after the other: every report is made and every overflow counted. -/
theorem foldl_reportKept (fates : List (Nat × Fate)) (s : State) :
    fates.foldl (fun s f => s.reportKept f) s = State.countOverflow^[overflowsIn fates] (s.withReports fates) := by
  induction fates generalizing s with
  | nil => simp [State.withReports, overflowsIn]
  | cons f rest ih =>
    rw [List.foldl_cons, ih]
    by_cases h : f.2 = .overflow
    · have hn : overflowsIn (f :: rest) = overflowsIn rest + 1 := by simp [overflowsIn, h]
      rw [reportKept_of_overflow h, countOverflow_withReports, withReports_cons, hn, Function.iterate_succ_apply]
    · have hn : overflowsIn (f :: rest) = overflowsIn rest := by simp [overflowsIn, h]
      rw [reportKept_of_ne_overflow h, withReports_cons, hn]

/-- Some overflows set the flag once and raise the counter for each. -/
theorem iterate_countOverflow_succ (n : Nat) (s : State) :
    State.countOverflow^[n + 1] s = (State.bump .depthOverflows)^[n + 1] (s.setFlag .depthOverflow) := by
  induction n generalizing s with
  | zero => rfl
  | succ n ih =>
    have hset : ((s.setFlag .depthOverflow).bump .depthOverflows).flagSet .depthOverflow = true :=
      flagSet_setFlag .depthOverflow s
    rw [Function.iterate_succ_apply, ih, State.countOverflow, State.setFlag, if_pos hset, ← Function.iterate_succ_apply]

/-- Some rises of a counter change the counters alone. -/
theorem iterate_bump_frame (c : Counter) (n : Nat) (s : State) :
    (State.bump c)^[n] s = { s with counters := ((State.bump c)^[n] s).counters } := by
  induction n generalizing s with
  | zero => rfl
  | succ n ih => rw [Function.iterate_succ_apply, ih]; rfl

/-- A counter after some rises, and the other counters. -/
theorem counter_iterate_bump (c d : Counter) (n : Nat) (s : State) :
    ((State.bump c)^[n] s).counter d = if d = c then saturatingSucc^[n] (s.counter c) else s.counter d := by
  induction n generalizing s with
  | zero => by_cases h : d = c <;> simp [h]
  | succ n ih => rw [Function.iterate_succ_apply, ih, counter_bump, counter_bump, if_pos rfl]; split <;> rfl

/-- What some overflows change: the flag, the attention line and the counter, with a request when the flag was clear. -/
theorem iterate_countOverflow (n : Nat) {s : State} (ha : s.attn = attention s.flags s.enables) :
    let v := State.countOverflow^[n] s
    v = { s with
        flags := v.flags, attn := v.attn, counters := v.counters
        requested := s.requested || (decide (0 < n) && !s.flagSet .depthOverflow) }
      ∧ FlagsSet (if 0 < n then [.depthOverflow] else []) s v
      ∧ ∀ c, v.counter c = if c = .depthOverflows then saturatingSucc^[n] (s.counter c) else s.counter c := by
  cases n with
  | zero => exact ⟨by simp, ⟨rfl, ha⟩, by simp⟩
  | succ n =>
    intro v
    have hv : v = (State.bump .depthOverflows)^[n + 1] (s.setFlag .depthOverflow) := iterate_countOverflow_succ n s
    have hset := setFlag_eq .depthOverflow s ha
    have hframe : v = { s.setFlag .depthOverflow with counters := v.counters } := by
      rw [hv, ← iterate_bump_frame]
    rw [hset] at hframe
    have hflags : v.flags = s.flags ||| Flag.mask .depthOverflow := by rw [hframe]
    have hattn : v.attn = attention (s.flags ||| Flag.mask .depthOverflow) s.enables := by rw [hframe]
    refine ⟨?_, ⟨hflags, by rw [hframe]⟩, fun c => ?_⟩
    · simpa [hflags, hattn] using hframe
    · rw [hv, counter_iterate_bump]
      by_cases hc : c = .depthOverflows <;> simp [hc, State.counter]

/-! ### The end of an entry (R88 to R90) -/

/-- The order of an entry's leaving and of the fault's count does not matter. -/
theorem dropEntry_memoryFault (tag : Nat) (s : State) : s.memoryFault.dropEntry tag = (s.dropEntry tag).memoryFault :=
  congrArg (State.bump .memoryFaults) (setFlag_comm (g := State.dropEntry tag) rfl rfl)

/-- An entry that is lost leaves, with a memory fault counted, and every contribution of it is reported lost. -/
theorem loseEntry_eq (e : Entry) (s : State) :
    s.loseEntry e
      = ((((s.withReports ((laneExposures e.lanes).map fun id => (id, .lost))).dropEntry e.tag).memoryFault).testAll
          (laneExposures e.lanes)) := by
  rw [State.loseEntry, foldl_reportFate_lost, dropEntry_memoryFault]

/-- An engine with nothing presented presents its oldest write due. -/
theorem presentWrite_eq (s : State) :
    s.presentWrite
      = { s with placePresented := s.placePresented <|> (s.entries.find? s.writeDue).map fun x => x.tag } := by
  rw [State.presentWrite]
  cases hp : s.placePresented with
  | some tag => cases s; simp_all
  | none =>
    cases s.entries.find? s.writeDue with
    | some e => rfl
    | none => cases s; simp_all

/-! ### The two terminations (R87 to R90, R96) -/

theorem exec_placementReadDone (tag : Nat) (result : Termination) (s : State) :
    exec (.placementReadDone tag result) s = execPlacementReadDone tag result s := rfl

theorem exec_placementWriteDone (tag : Nat) (result : Termination) (s : State) :
    exec (.placementWriteDone tag result) s = execPlacementWriteDone tag result s := rfl

section
variable {s : State} {tag : Nat} {f : InFlight}

/-- The line read: the entry becomes WRITING, and the oldest write due is presented (R87). -/
theorem placementRead_done {e : Entry} (line : Line) (hs : s.Running) (he : s.entry? tag = some e)
    (hf : s.findInFlight (InFlight.placementRead tag) = some f) (hlive : f.live = true) :
    exec (.placementReadDone tag (.done line)) s
      = .next (((s.land (InFlight.placementRead tag)).updateEntry tag fun e' =>
          { e' with state := .writing (applyLanes e.lanes line).1 (applyLanes e.lanes line).2 }).presentWrite) := by
  have he' : (s.land (InFlight.placementRead tag)).entry? tag = some e := he
  rw [exec_placementReadDone, execPlacementReadDone, act_of_released hs.1]
  simp only [hf, hlive, he', presentWrite_eq]
  exact next_settleRequests hs.2

/-- A fault of the read loses the entry (R89). -/
theorem placementRead_fault {e : Entry} (hs : s.Running) (he : s.entry? tag = some e)
    (hf : s.findInFlight (InFlight.placementRead tag) = some f) (hlive : f.live = true) :
    exec (.placementReadDone tag .fault) s = .next ((s.land (InFlight.placementRead tag)).loseEntry e).settleRequests := by
  have he' : (s.land (InFlight.placementRead tag)).entry? tag = some e := he
  rw [exec_placementReadDone, execPlacementReadDone, act_of_released hs.1]
  simp only [hf, hlive, he']

/-- A read let go is discarded (R96). -/
theorem placementRead_letGo (result : Termination) (hs : s.Running)
    (hf : s.findInFlight (InFlight.placementRead tag) = some f) (hlive : f.live = false) :
    exec (.placementReadDone tag result) s = .next (s.land (InFlight.placementRead tag)) := by
  rw [exec_placementReadDone, execPlacementReadDone, act_of_released hs.1]
  simp only [hf, hlive]
  exact next_settleRequests hs.2

/-- The line written completes the entry (R88). -/
theorem placementWrite_done {e : Entry} (d : Line) (hs : s.Running) (he : s.entry? tag = some e)
    (hf : s.findInFlight (InFlight.placementWrite tag) = some f) (hlive : f.live = true) :
    exec (.placementWriteDone tag (.done d)) s
      = .next ((s.land (InFlight.placementWrite tag)).completeEntry tag e.fates).settleRequests := by
  have he' : (s.land (InFlight.placementWrite tag)).entry? tag = some e := he
  rw [exec_placementWriteDone, execPlacementWriteDone, act_of_released hs.1]
  simp only [hf, hlive, he']

/-- A fault of the write loses the entry (R90). -/
theorem placementWrite_fault {e : Entry} (hs : s.Running) (he : s.entry? tag = some e)
    (hf : s.findInFlight (InFlight.placementWrite tag) = some f) (hlive : f.live = true) :
    exec (.placementWriteDone tag .fault) s = .next ((s.land (InFlight.placementWrite tag)).loseEntry e).settleRequests := by
  have he' : (s.land (InFlight.placementWrite tag)).entry? tag = some e := he
  rw [exec_placementWriteDone, execPlacementWriteDone, act_of_released hs.1]
  simp only [hf, hlive, he']

/-- A write let go has no effect (R96). -/
theorem placementWrite_letGo (result : Termination) (hs : s.Running)
    (hf : s.findInFlight (InFlight.placementWrite tag) = some f) (hlive : f.live = false) :
    exec (.placementWriteDone tag result) s = .next (s.land (InFlight.placementWrite tag)) := by
  rw [exec_placementWriteDone, execPlacementWriteDone, act_of_released hs.1]
  simp only [hf, hlive]
  exact next_settleRequests hs.2

end

/-- The reports of a lost entry, as one change of the queue. -/
theorem withReports_lost (ids : List Nat) (s : State) :
    s.withReports (ids.map fun id => (id, .lost))
      = { s with
          queue := s.queue.map fun x => ids.foldl (fun y id => if y.id = id then y.report .lost else y) x } := by
  simp only [State.withReports, List.foldl_map]
  rfl

/-- Settles O30: DONE and FAULT of the read and of the write, either one let go, and a report. -/
theorem placementTerminations : Obligations.PlacementTerminations := by
  refine ⟨fun e f s hs he hf hlive => ⟨fun line => ?_, ?_⟩, fun e image fates f s hs he hstate hf hlive => ?_,
    fun tag f result s hs hlive => ⟨fun hf => ?_, fun hf => ?_⟩, fun x fate hpos => ?_⟩
  · rw [placementRead_done line hs he hf hlive, presentWrite_eq]
    rfl
  · rw [placementRead_fault hs he hf hlive, loseEntry_eq, withReports_lost]
    rfl
  · refine ⟨fun d => ?_, ?_⟩
    · have ⟨_, hreq, _, hattn⟩ := hs
      set reported := (s.land (InFlight.placementWrite e.tag)).withReports fates
      obtain ⟨hframe, hflags, hcounters⟩ := iterate_countOverflow (overflowsIn fates) (s := reported) hattn
      have hfates : e.fates = fates := by rw [Entry.fates, hstate]
      have hquiet : reported.requested = false := hreq
      refine ⟨(State.countOverflow^[overflowsIn fates] reported).dropEntry e.tag, ?_, ?_, hflags, hcounters⟩
      · rw [placementWrite_done d hs he hf hlive, State.completeEntry, foldl_reportKept, hfates]
      · refine (congrArg (State.dropEntry e.tag) hframe).trans ?_
        rw [hquiet, Bool.false_or]
        rfl
    · rw [placementWrite_fault hs he hf hlive, loseEntry_eq, withReports_lost]
      rfl
  · exact placementRead_letGo result hs hf hlive
  · exact placementWrite_letGo result hs hf hlive
  · rw [report_of_pos fate hpos]
    cases fate with
    | placed degraded => cases degraded <;> simp [Tallies.count]
    | _ => simp [Tallies.count]

end Sys2Proof.Machine
end

section
/-! The sweep engine's terminations (R104 to R113): what each signals, and the row, the sweep and the stack it leaves.
Settles O31, O32 and O33. -/

namespace Sys2Proof.Machine

/-! ### Setting events, counts and the request of one step (R166, R170, R172) -/

/-- The flags after the setting events of some of them (R166). -/
abbrev flagsAfter (fs : List Flag) (word : BitVec 15) : BitVec 15 := fs.foldl (fun w f => w ||| f.mask) word

/-- Within a step, `w` is `v` with some flags set, the attention line following, some counters raised, and a rewrite
requested (`wanted`) or not. -/
def Signals (wanted : Bool) (fs : List Flag) (cs : List Counter) (v w : State) : Prop :=
  ∃ counters, w = { v with
      flags := flagsAfter fs v.flags, attn := attention (flagsAfter fs v.flags) v.enables, counters := counters
      requested := wanted }
    ∧ CountersRaised cs v w

section
variable {wanted : Bool} {fs : List Flag} {cs : List Counter} {v w : State}

/-- A settled part has signalled nothing. -/
theorem signals_nothing (hv : v.Settled) : Signals false [] [] v v := by
  obtain ⟨hreq, -, hattn⟩ := hv
  refine ⟨v.counters, ?_, fun c => by simp⟩
  simp only [flagsAfter, List.foldl_nil, ← hreq, ← hattn]

theorem Signals.setFlag (h : Signals wanted fs cs v w) (f : Flag) :
    Signals (wanted || !w.flagSet f) (fs ++ [f]) cs v (w.setFlag f) := by
  obtain ⟨counters, rfl, hcounters⟩ := h
  refine ⟨counters, ?_, fun c => ?_⟩
  · rw [setFlag_eq f _ rfl]
    simp only [flagsAfter, List.foldl_append, List.foldl_cons, List.foldl_nil]
  · simpa only [State.counter, setFlag_counters] using hcounters c

theorem Signals.bump (h : Signals wanted fs [] v w) (c : Counter) : Signals wanted fs [c] v (w.bump c) := by
  obtain ⟨counters, rfl, hcounters⟩ := h
  refine ⟨_, rfl, fun d => ?_⟩
  have hkeep : ∀ d, State.counter _ d = v.counter d := fun d => by simpa using hcounters d
  rw [counter_bump, hkeep, hkeep]
  by_cases hd : d = c <;> simp [hd]

theorem Signals.request (h : Signals wanted fs cs v w) : Signals true fs cs v w.request := by
  obtain ⟨counters, rfl, hcounters⟩ := h
  exact ⟨counters, rfl, hcounters⟩

theorem Signals.requestIf (h : Signals wanted fs cs v w) (more : Bool) :
    Signals (wanted || more) fs cs v (w.requestIf more) := by
  obtain ⟨counters, rfl, hcounters⟩ := h
  exact ⟨counters, rfl, hcounters⟩

/-- A memory fault of the part's own (R154). -/
theorem Signals.memoryFault (h : Signals wanted fs [] v w) :
    Signals (wanted || !w.flagSet .memoryFault) (fs ++ [.memoryFault]) [.memoryFaults] v w.memoryFault :=
  (h.setFlag .memoryFault).bump .memoryFaults

/-- A memory fault alone. -/
theorem signals_memoryFault (hv : v.Settled) :
    Signals (v.someClear [.memoryFault]) [.memoryFault] [.memoryFaults] v v.memoryFault := by
  simpa [State.someClear] using (signals_nothing hv).memoryFault

/-- What the sweep engine works on takes no part in what is signalled. -/
theorem Signals.withSweep (h : Signals wanted fs cs v w) (sweep : Option SweepWork) :
    Signals wanted fs cs { v with sweep := sweep } { w with sweep := sweep } := by
  obtain ⟨counters, rfl, hcounters⟩ := h
  exact ⟨counters, rfl, hcounters⟩

theorem Signals.stack_eq (h : Signals wanted fs cs v w) (k : StackSlot) : w.stack k = v.stack k := by
  obtain ⟨counters, rfl, -⟩ := h
  rfl

theorem Signals.setStack (h : Signals wanted fs cs v w) (k : StackSlot) (r : StackRecord) :
    Signals wanted fs cs (v.setStack k r) (w.setStack k r) := by
  obtain ⟨counters, rfl, hcounters⟩ := h
  cases k <;> exact ⟨counters, rfl, hcounters⟩

theorem Signals.takeUp (h : Signals wanted fs cs v w) (k : StackSlot) :
    Signals wanted fs cs (v.takeUp k) (w.takeUp k) := by
  obtain ⟨counters, rfl, hcounters⟩ := h
  exact ⟨counters, rfl, hcounters⟩

/-- The end of the step takes the request and keeps the rest. -/
theorem Signals.settled (h : Signals wanted fs cs v w) (hreq : v.requested = false) (hret : v.retirements = 0) :
    let u := w.settleRequests
    u = { v with
        flags := u.flags, attn := u.attn, counters := u.counters, rewrite := u.rewrite, rewriteCount := u.rewriteCount
        mark := u.mark }
      ∧ FlagsSet fs v u ∧ CountersRaised cs v u ∧ RewriteAfter wanted v u := by
  obtain ⟨counters, hw, hcounters⟩ := h
  have hrequests : w.requests = if wanted then 1 else 0 := by simp [State.requests, hw, hret]
  refine ⟨?_, ?_, fun c => ?_, ?_⟩
  · simp only [settleRequests_flags, settleRequests_attn, settleRequests_counters]
    rw [settleRequests_frame, settleRequests_requested, settleRequests_retirements, hw, hreq, hret]
  · rw [FlagsSet, settleRequests_flags, settleRequests_attn, settleRequests_enables, hw]
    exact ⟨rfl, rfl⟩
  · simpa only [State.counter, settleRequests_counters] using hcounters c
  · have hrewrites : RewritesAfter w.requests v _ :=
      settleRequests_rewritesAfter (by rw [hw]) (by rw [hw]) (by rw [hw])
    rwa [hrequests] at hrewrites

end

/-! ### The next row (R104) -/

@[simp] theorem other_other (k : StackSlot) : k.other.other = k := by
  cases k <;> rfl

/-- After a row of a stack the engine prefers the other stack. -/
theorem takeUp_other (k : StackSlot) (s : State) : s.takeUp k.other = { s with sweep := s.nextRow k } := by
  rw [State.takeUp, other_other]
  rfl

/-- The next row is told from the stack records alone. -/
theorem nextRow_congr {s u : State} (h : ∀ k, u.stack k = s.stack k) (k : StackSlot) : u.nextRow k = s.nextRow k := by
  simp only [State.nextRow, h]

@[simp] theorem settleRequests_stack (s : State) (k : StackSlot) : s.settleRequests.stack k = s.stack k := by
  cases k <;> simp [State.stack]

/-- The replacement of a stack record as a change of the two records. -/
theorem setStack_eq (k : StackSlot) (r : StackRecord) (s : State) :
    s.setStack k r = { s with
      stack0 := if k = .zero then r else s.stack0, stack1 := if k = .one then r else s.stack1 } := by
  cases k <;> rfl

/-- A change of stack records and of the row in work, as the step's end leaves it. -/
theorem Signals.settled_nextRow {wanted : Bool} {fs : List Flag} {cs : List Counter} {v w : State} {k : StackSlot}
    {r : StackRecord} (hv : v.Settled) (h : Signals wanted fs cs (v.setStack k r) w) :
    let u := (w.takeUp k.other).settleRequests
    u = { v.setStack k r with
        sweep := u.nextRow k, flags := u.flags, attn := u.attn, counters := u.counters, rewrite := u.rewrite
        rewriteCount := u.rewriteCount, mark := u.mark }
      ∧ FlagsSet fs v u ∧ CountersRaised cs v u ∧ RewriteAfter wanted v u := by
  have hrow := h.takeUp k.other
  obtain ⟨hreq, hret, -⟩ := hv
  rw [takeUp_other k (v.setStack k r), setStack_eq] at hrow
  intro u
  obtain ⟨hu, hrest⟩ := hrow.settled hreq hret
  refine ⟨?_, hrest⟩
  have hnext : u.nextRow k = (v.setStack k r).nextRow k :=
    nextRow_congr (fun j => (settleRequests_stack (w.takeUp k.other) j).trans (h.stack_eq j)) k
  rw [hnext, setStack_eq]
  exact hu

/-! ### The end of a row (R105, R106, R109, R113) -/

/-- The state in which a sweep ends at height. -/
def StackState.swept (r : StackState) : StackState := if r = .clearing then .openState else .rendered

/-- The flag with which a sweep ends at height. -/
def StackState.sweptFlag (r : StackState) : Flag := if r = .clearing then .stackReady else .stackRendered

/-- A row below height: the cursor rises, with a request at multiples of 256. -/
theorem completeRow_of_lt {s : State} {k : StackSlot} (h : (s.stack k).cursor + 1 < (s.stack k).height) :
    s.completeRow k
      = ((s.setStack k { s.stack k with cursor := (s.stack k).cursor + 1 }).requestIf
          (((s.stack k).cursor + 1) % 256 == 0)).takeUp k.other := by
  rw [State.completeRow, if_neg h.not_ge]
  by_cases hm : ((s.stack k).cursor + 1) % 256 = 0
  · simp only [hm, if_true, beq_self_eq_true, requestIf_true]
  · simp only [hm, if_false, beq_eq_false_iff_ne.2 hm, requestIf_false]

/-- The row at height ends the sweep. -/
theorem completeRow_of_ge {s : State} {k : StackSlot} (h : (s.stack k).height ≤ (s.stack k).cursor + 1) :
    s.completeRow k
      = ((s.setStack k { s.stack k with
            state := (s.stack k).state.swept, cursor := (s.stack k).cursor + 1 }).setFlag
          (s.stack k).state.sweptFlag).request.takeUp k.other := by
  rw [State.completeRow, if_pos h, StackState.swept, StackState.sweptFlag]
  by_cases hc : (s.stack k).state = .clearing
  · simp only [hc, if_true]
  · simp only [hc, if_false]

/-- The end of a row, after a termination that may have signalled a fault (R112). -/
theorem completeRow_rowCompleted {fs : List Flag} {cs : List Counter} {k : StackSlot} {v w : State} (hv : v.Settled)
    (h : Signals (v.someClear fs) fs cs v w) :
    RowCompleted fs cs k (v.stack k).state.swept (v.stack k).state.sweptFlag v (w.completeRow k).settleRequests := by
  have hstack := h.stack_eq k
  obtain hlt | hge := Nat.lt_or_ge ((v.stack k).cursor + 1) (v.stack k).height
  · have hrow := ((h.setStack k { v.stack k with cursor := (v.stack k).cursor + 1 }).requestIf
      (((v.stack k).cursor + 1) % 256 == 0)).settled_nextRow hv
    rw [completeRow_of_lt (by rwa [hstack]), hstack]
    obtain ⟨hu, hflags, hcounters, hrewrite⟩ := hrow
    exact ⟨hcounters, fun _ => ⟨hu, hflags, hrewrite⟩, fun hge => absurd hlt hge.not_gt⟩
  · have hrow := ((h.setStack k { v.stack k with
        state := (v.stack k).state.swept, cursor := (v.stack k).cursor + 1 }).setFlag
          (v.stack k).state.sweptFlag).request.settled_nextRow hv
    rw [completeRow_of_ge (by rwa [hstack]), hstack]
    obtain ⟨hu, hflags, hcounters, hrewrite⟩ := hrow
    exact ⟨hcounters, fun hlt => absurd hlt hge.not_gt, fun _ => ⟨hu, hflags, hrewrite⟩⟩

/-! ### The terminations (R105 to R113) -/

/-- The step of a clear write's termination. -/
theorem exec_clearWriteDone (result : Termination) (s : State) :
    exec (.clearWriteDone result) s = execClearWriteDone result s := rfl

/-- The step of a render read's termination. -/
theorem exec_renderReadDone (result : Termination) (s : State) :
    exec (.renderReadDone result) s = execRenderReadDone result s := rfl

/-- The step of a render write's termination. -/
theorem exec_renderWriteDone (result : Termination) (s : State) :
    exec (.renderWriteDone result) s = execRenderWriteDone result s := rfl

theorem nextLine_of_lt {w : SweepWork} {lines : Nat} (h : w.line + 1 < lines) (step : SweepStep) (s : State) :
    s.nextLine w lines step = { s with sweep := some { w with line := w.line + 1, step := step } } := if_pos h

theorem nextLine_of_ge {w : SweepWork} {lines : Nat} (h : lines ≤ w.line + 1) (step : SweepStep) (s : State) :
    s.nextLine w lines step = s.completeRow w.slot := if_neg h.not_gt

@[simp] theorem land_stack (p : InFlight → Bool) (s : State) (k : StackSlot) : (s.land p).stack k = s.stack k := rfl

/-- After the first read of a pair the second is due. -/
theorem afterRenderRead_of_first {w : SweepWork} (h : w.step = .renderRead0) (pixels : Option Nat) (s : State) :
    s.afterRenderRead w pixels = { s with sweep := some { w with step := .renderRead1 pixels } } := by
  rw [State.afterRenderRead, h]

/-- After the second read of a pair the output line is due to be written. -/
theorem afterRenderRead_of_second {w : SweepWork} {lo : Option Nat} (h : w.step = .renderRead1 lo)
    (pixels : Option Nat) (s : State) :
    s.afterRenderRead w pixels = { s with sweep := some { w with step := .renderWrite (pairLine lo pixels) } } := by
  rw [State.afterRenderRead, h]

/-- A pair whose second cell line was read DONE. -/
theorem pairLine_of_second (lo : Option Nat) (hi : Nat) :
    pairLine lo (some hi) = lo.elim blankLine fun n => BitVec.ofNat 256 (n + hi * 2 ^ 128) := by
  cases lo <;> rfl

/-- A pair whose second cell line faulted. -/
theorem pairLine_of_fault (lo : Option Nat) : pairLine lo none = blankLine := by
  cases lo <;> rfl

section
variable {s : State} {f : InFlight} {w : SweepWork}

/-- The two terminations of a clear write of the row in work (R106, R107). -/
theorem clearWrite_terminated (hs : s.Running) (hf : s.findInFlight (fun x => x.owner.isClear) = some f)
    (hlive : f.live = true) (hw : s.sweep = some w) :
    let v := s.land fun x => x.owner.isClear
    (∀ d, exec (.clearWriteDone (.done d)) s
        = .next (v.nextLine w ((s.stack w.slot).width / 4) .clear).settleRequests)
      ∧ exec (.clearWriteDone .fault) s = .next (v.clearFault w.slot).settleRequests := by
  refine ⟨fun d => ?_, ?_⟩ <;>
  · rw [exec_clearWriteDone, execClearWriteDone, act_of_released hs.1]
    simp only [hf, hlive, land_sweep, land_stack, hw]

/-- The two terminations of a render read of the row in work (R109, R111). -/
theorem renderRead_terminated (hs : s.Running) (hf : s.findInFlight (fun x => x.owner.isRenderRead) = some f)
    (hlive : f.live = true) (hw : s.sweep = some w) :
    let v := s.land fun x => x.owner.isRenderRead
    (∀ line, exec (.renderReadDone (.done line)) s
        = .next (v.afterRenderRead w (some (renderLine (s.stack w.slot).Nrej line))).settleRequests)
      ∧ exec (.renderReadDone .fault) s = .next (v.memoryFault.afterRenderRead w none).settleRequests := by
  refine ⟨fun d => ?_, ?_⟩ <;>
  · rw [exec_renderReadDone, execRenderReadDone, act_of_released hs.1]
    simp only [hf, hlive, land_sweep, land_stack, hw]

/-- The two terminations of a render write of the row in work (R109, R112). -/
theorem renderWrite_terminated (hs : s.Running) (hf : s.findInFlight (fun x => x.owner.isRenderWrite) = some f)
    (hlive : f.live = true) (hw : s.sweep = some w) :
    let v := s.land fun x => x.owner.isRenderWrite
    (∀ d, exec (.renderWriteDone (.done d)) s
        = .next (v.nextLine w ((s.stack w.slot).width / 8) .renderRead0).settleRequests)
      ∧ exec (.renderWriteDone .fault) s
        = .next (v.memoryFault.nextLine w ((s.stack w.slot).width / 8) .renderRead0).settleRequests := by
  refine ⟨fun d => ?_, ?_⟩ <;>
  · rw [exec_renderWriteDone, execRenderWriteDone, act_of_released hs.1]
    simp only [hf, hlive, land_sweep, land_stack, hw]

end

/-- Settles O31: the next line, the end of the row, and the fault. -/
theorem clearWriteTermination : Obligations.ClearWriteTermination := by
  intro f w s hs hf hlive hw hstate v
  have hv : v.Settled := hs.2
  have hvstate : (v.stack w.slot).state = .clearing := hstate
  obtain ⟨hdone, hfault⟩ := clearWrite_terminated hs hf hlive hw
  refine ⟨fun d hlt => ?_, fun d hge => ⟨_, hdone d, ?_⟩, ⟨_, hfault, ?_⟩⟩
  · rw [hdone, nextLine_of_lt hlt]
    exact next_settleRequests hv
  · have hrow := completeRow_rowCompleted (k := w.slot) hv (signals_nothing hv)
    rw [hvstate] at hrow
    rw [nextLine_of_ge hge]
    exact hrow
  · exact ((((signals_nothing hv).setStack w.slot _).setFlag .stackFault).memoryFault).request.settled_nextRow hv

/-- A counted fault with a change of the row in work. -/
theorem faultCounted_withSweep {v : State} (hv : v.Settled) (sweep : Option SweepWork) :
    FaultCounted { v with sweep := sweep } { v.memoryFault with sweep := sweep }.settleRequests := by
  have ⟨hreq, hret, _⟩ := hv
  exact ((signals_memoryFault hv).withSweep sweep).settled hreq hret

/-- Settles O32: the first read of the pair and the second, each DONE and FAULT. -/
theorem renderReadTermination : Obligations.RenderReadTermination := by
  refine ⟨by decide, ?_⟩
  intro f w s hs hf hlive hw at_ pixels
  have hv : (s.land fun x => x.owner.isRenderRead).Settled := hs.2
  obtain ⟨hdone, hfault⟩ := renderRead_terminated hs hf hlive hw
  refine ⟨fun hstep => ⟨fun line => ?_, _, hfault, ?_⟩, fun lo hstep => ⟨fun line => ?_, _, hfault, ?_⟩⟩
  · rw [hdone, afterRenderRead_of_first hstep]
    exact next_settleRequests hv
  · rw [afterRenderRead_of_first hstep]
    exact faultCounted_withSweep hv _
  · rw [hdone, afterRenderRead_of_second hstep, pairLine_of_second]
    exact next_settleRequests hv
  · rw [afterRenderRead_of_second hstep, pairLine_of_fault]
    exact faultCounted_withSweep hv _

/-- Settles O33: a line before the row's last and the last one, each DONE and FAULT. -/
theorem renderWriteTermination : Obligations.RenderWriteTermination := by
  intro f w s hs hf hlive hw hstate v next
  have hv : v.Settled := hs.2
  have hvstate : (v.stack w.slot).state = .rendering := hstate
  obtain ⟨hdone, hfault⟩ := renderWrite_terminated hs hf hlive hw
  refine ⟨fun hlt => ⟨fun d => ?_, _, hfault, ?_⟩, fun hge => ⟨fun d => ⟨_, hdone d, ?_⟩, _, hfault, ?_⟩⟩
  · rw [hdone, nextLine_of_lt hlt]
    exact next_settleRequests hv
  · rw [nextLine_of_lt hlt]
    exact faultCounted_withSweep hv _
  · have hrow := completeRow_rowCompleted (k := w.slot) hv (signals_nothing hv)
    rw [hvstate] at hrow
    rw [nextLine_of_ge hge]
    exact hrow
  · have hrow := completeRow_rowCompleted (k := w.slot) hv (signals_memoryFault hv)
    rw [hvstate] at hrow
    rw [nextLine_of_ge hge]
    exact hrow

end Sys2Proof.Machine
end

section
/-! The render arithmetic (R110): the output pixel of a cell, and its place in the output line (R98, R109).
Settles O34. -/

namespace Sys2Proof.Machine

/-! ### The clamp (R110) -/

theorem clampQe_eq (x : Int) : clampQe x = max (-8388608) (min 8388607 x) := by
  rw [clampQe, clamp]
  split
  · omega
  · split <;> omega

theorem clampQe_bounds (x : Int) : -8388608 ≤ clampQe x ∧ clampQe x ≤ 8388607 := by
  rw [clampQe_eq]
  omega

/-- A mean in the contribution range rounds to a value of the range. -/
theorem clampQe_roundAway {x : Int} {d : Nat} (hd : 0 < d) (hlo : -8388608 * (d : Int) ≤ x)
    (hhi : x ≤ 8388607 * (d : Int)) :
    clampQe (roundAway x d) = roundAway x d := by
  obtain hx | hx := le_total 0 x
  · have hnonneg := roundUp_nonneg hx d
    rw [roundAway_of_nonneg hx]
    exact clampQe_of_mem (by omega) (roundUp_le hd hhi)
  · have hnonneg := roundUp_nonneg (neg_nonneg.2 hx) d
    have hle : roundUp (-x) d ≤ 8388608 := roundUp_le hd (by omega)
    rw [roundAway_of_nonpos hx hd]
    exact clampQe_of_mem (by omega) (by omega)

/-! ### The pixel of a cell (R110) -/

theorem renderPixel_blank (Nrej : Nat) {c : Cell} (h : c.count = 0) (hsat : c.sat = false) :
    renderPixel Nrej c = -2147483648 := by
  simp [renderPixel, h, hsat, blankPixel]

theorem renderPixel_saturated (Nrej : Nat) {c : Cell} (h : c.count = 0) (hsat : c.sat = true) :
    renderPixel Nrej c = 2147483647 := by
  simp [renderPixel, h, hsat, saturationPixel]

/-- A cell deep enough loses its peak. -/
theorem renderPixel_rejecting {Nrej : Nat} {c : Cell} (h : 0 < c.count) (hrej : Nrej ≠ 0 ∧ Nrej ≤ c.count) :
    renderPixel Nrej c = clampQe (roundAway (c.sum - c.peak) (c.count - 1)) := by
  rw [renderPixel, if_neg h.ne', if_pos hrej]

theorem renderPixel_mean {Nrej : Nat} {c : Cell} (h : 0 < c.count) (hrej : ¬ (Nrej ≠ 0 ∧ Nrej ≤ c.count)) :
    renderPixel Nrej c = clampQe (roundAway c.sum c.count) := by
  rw [renderPixel, if_neg h.ne', if_neg hrej]

/-- A pixel is one of the two markers or a value of the contribution range. -/
theorem renderPixel_range (Nrej : Nat) (c : Cell) :
    renderPixel Nrej c = -2147483648 ∨ renderPixel Nrej c = 2147483647
      ∨ (-8388608 ≤ renderPixel Nrej c ∧ renderPixel Nrej c ≤ 8388607) := by
  rcases Nat.eq_zero_or_pos c.count with h | h
  · cases hsat : c.sat with
    | false => exact .inl (renderPixel_blank Nrej h hsat)
    | true => exact .inr (.inl (renderPixel_saturated Nrej h hsat))
  · by_cases hrej : Nrej ≠ 0 ∧ Nrej ≤ c.count
    · rw [renderPixel_rejecting h hrej]
      exact .inr (.inr (clampQe_bounds _))
    · rw [renderPixel_mean h hrej]
      exact .inr (.inr (clampQe_bounds _))

/-! ### The pixels of an output line (R98, R109) -/

/-- The output pixel of the cell at a lane, as its line holds it. -/
def lanePixel (Nrej : Nat) (l : Line) (j : Fin 4) : Nat := unsignedOf 32 (renderPixel Nrej (cellOf (laneOf l j)))

theorem lanePixel_lt (Nrej : Nat) (l : Line) (j : Fin 4) : lanePixel Nrej l j < 2 ^ 32 := unsignedOf_lt 32 _

/-- The four pixels of a cell line, one above the other. -/
theorem renderLine_eq (Nrej : Nat) (l : Line) :
    renderLine Nrej l
      = lanePixel Nrej l 0 + 2 ^ 32 * lanePixel Nrej l 1 + 2 ^ 64 * lanePixel Nrej l 2
        + 2 ^ 96 * lanePixel Nrej l 3 := by
  have hplace (j : Fin 4) : placeAt (4 * j.1) 4 (lanePixel Nrej l j) = 2 ^ (32 * j.1) * lanePixel Nrej l j := by
    rw [placeAt_eq, Nat.mod_eq_of_lt (lanePixel_lt Nrej l j), ← Nat.mul_assoc]
  have hlanes : renderLine Nrej l
      = [0, 1, 2, 3].foldr (fun (j : Fin 4) n => n + placeAt (4 * j.1) 4 (lanePixel Nrej l j)) 0 := rfl
  simp only [hlanes, hplace, List.foldr_cons, List.foldr_nil]
  norm_num
  ring

theorem renderLine_lt (Nrej : Nat) (l : Line) : renderLine Nrej l < 2 ^ 128 := by
  have h0 := lanePixel_lt Nrej l 0
  have h1 := lanePixel_lt Nrej l 1
  have h2 := lanePixel_lt Nrej l 2
  have h3 := lanePixel_lt Nrej l 3
  rw [renderLine_eq]
  omega

/-- Word `j` of the four is the pixel at lane `j`. -/
theorem bytesAt_renderLine (Nrej : Nat) (l : Line) (j : Fin 4) :
    bytesAt (renderLine Nrej l) (4 * j.1) 4 = lanePixel Nrej l j := by
  have h0 := lanePixel_lt Nrej l 0
  have h1 := lanePixel_lt Nrej l 1
  have h2 := lanePixel_lt Nrej l 2
  have h3 := lanePixel_lt Nrej l 3
  rw [bytesAt_eq, renderLine_eq]
  match j with
  | 0 | 1 | 2 | 3 => norm_num; omega

/-- A word of the output line of a pair is the word of the first cell line's pixels or of the second's. -/
theorem bytesAt_pairLine {lo : Nat} (hlo : lo < 2 ^ 128) (hi : Nat) {j : Nat} (hj : j < 8) :
    bytesAt (pairLine (some lo) (some hi)).toNat (4 * j) 4 = bytesAt (if j < 4 then lo else hi) (4 * (j % 4)) 4 := by
  have hword : bytesAt (pairLine (some lo) (some hi)).toNat (4 * j) 4 = bytesAt (lo + hi * 2 ^ 128) (4 * j) 4 := by
    rw [pairLine, BitVec.toNat_ofNat, bytesAt_mod (by omega)]
  rw [hword]
  split
  · next h =>
    rw [← bytesAt_mod (k := 128) (by omega), Nat.add_mul_mod_self_right, Nat.mod_eq_of_lt hlo, Nat.mod_eq_of_lt h]
  · next h =>
    have hoff : 8 * (4 * j) - 128 = 8 * (4 * (j % 4)) := by omega
    rw [bytesAt_div (k := 128) (by omega), Nat.add_mul_div_right _ _ (by decide), Nat.div_eq_of_lt hlo, Nat.zero_add,
      hoff, ← bytesAt_eq]

/-- Settles O34: the cases of R110 with their clamp, the rounding, and the words of an output line. -/
theorem renderedPixels : Obligations.RenderedPixels := by
  refine ⟨?_, ?_, ?_⟩
  · intro Nrej c clamped inRange rejects pixel
    refine ⟨renderPixel_blank Nrej, renderPixel_saturated Nrej, fun h hrej => ?_, fun h hrej => ?_,
      renderPixel_range Nrej c, fun hN hrej hrange => ?_, fun h hrej hrange => ?_⟩
    · exact (renderPixel_rejecting h hrej).trans (clampQe_eq _)
    · exact (renderPixel_mean h hrej).trans (clampQe_eq _)
    · obtain ⟨hlo, hhi⟩ := hrange
      have hdepth : 3 ≤ c.count := hN.trans hrej.2
      exact (renderPixel_rejecting (by omega) hrej).trans (clampQe_roundAway (by omega) hlo hhi)
    · obtain ⟨hlo, hhi⟩ := hrange
      exact (renderPixel_mean h hrej).trans (clampQe_roundAway h hlo hhi)
  · intro x d hd
    refine ⟨fun hx => ?_, roundAway_neg x hd⟩
    rw [roundAway_of_nonneg hx]
    exact roundUp_bounds x hd
  · intro Nrej first second j
    rw [bytesAt_pairLine (renderLine_lt Nrej first) _ j.2, ← apply_ite (renderLine Nrej)]
    have hlane : (Fin.ofNat 4 (j.1 % 4)).1 = j.1 % 4 := Nat.mod_mod _ _
    have hpixel := bytesAt_renderLine Nrej (if j.1 < 4 then first else second) (Fin.ofNat 4 (j.1 % 4))
    rw [hlane] at hpixel
    exact hpixel

end Sys2Proof.Machine
end

section
/-! OPEN_STACK, RENDER_STACK and DISCARD_STACK: their checks and their acceptance (R101 to R104, R108, R114, R115).
Settles O45, O46 and O47. -/

namespace Sys2Proof.Machine

/-! ### What the stack commands share (R104, R158, R161) -/

/-- A command that its owner ends in a settled state `v` ends at the second read of its parameters. -/
theorem command_ends {s v : State} {c : CurrentCommand} {first second : Line} {code : BitVec 8} {r : ResultCode}
    {d : Nat} (hs : s.Running) (ha : s.Awaits c first) (hcode : BitVec.ofNat 8 c.code.number = code) (hv : v.Settled)
    (hrun : s.commandLanded.handOver c (block first second) = v.finish c r d) :
    ∃ u, exec (.parameterReadDone (.done second)) s = .next u ∧ EndedWith code c.tag r d v u := by
  subst hcode
  refine ⟨_, exec_parameterReadDone_second second hs ha, ?_⟩
  rw [hrun]
  exact finish_endedWith c r d hv

theorem setStack_settled (k : StackSlot) (r : StackRecord) {s : State} (hs : s.Settled) : (s.setStack k r).Settled := by
  rw [setStack_eq]
  exact hs

@[simp] theorem stack_setStack_self (k : StackSlot) (r : StackRecord) (s : State) : (s.setStack k r).stack k = r := by
  cases k <;> rfl

/-- A request alone, as the step's end takes it. -/
theorem request_settled {v : State} (hv : v.Settled) :
    let u := v.request.settleRequests
    u = { v with rewrite := u.rewrite, rewriteCount := u.rewriteCount, mark := u.mark } ∧ RewriteAfter true v u := by
  obtain ⟨hreq, hret, -⟩ := hv
  have hrequests : v.request.requests = 1 := by simp [State.requests, State.request, hret]
  refine ⟨?_, ?_⟩
  · conv_lhs => rw [settleRequests_frame, settleRequests_requested, settleRequests_retirements]
    simp only [State.request, ← hreq, ← hret]
  · have hrewrites : RewritesAfter v.request.requests v _ := settleRequests_rewritesAfter rfl rfl rfl
    rwa [hrequests] at hrewrites

/-- The rewrite after a step, told from another state with the same rewrite. -/
theorem rewritesAfter_congr {n : Nat} {s v u : State} (hcount : v.rewriteCount = s.rewriteCount)
    (hrewrite : v.rewrite = s.rewrite) (hmark : v.mark = s.mark) (h : RewritesAfter n v u) : RewritesAfter n s u := by
  rwa [RewritesAfter, hcount, hrewrite, hmark] at h

/-- The removal of an element that a test does not select does not change the test of a list. -/
theorem any_eraseP {α : Type} {p q : α → Bool} (h : ∀ x, p x = true → q x = false) (l : List α) :
    (l.eraseP p).any q = l.any q := by
  induction l with
  | nil => rfl
  | cons a l ih =>
    by_cases ha : p a = true
    · rw [List.eraseP_cons_of_pos ha, List.any_cons, h a ha, Bool.false_or]
    · rw [List.eraseP_cons_of_neg ha, List.any_cons, List.any_cons, ih]

/-- The landing of a command's read takes no sweep transfer out of flight. -/
theorem commandLanded_sweepInFlight (s : State) : s.commandLanded.sweepInFlight = s.sweepInFlight := by
  refine any_eraseP (fun f hf => ?_) s.inFlight
  rw [beq_iff_eq] at hf
  rw [hf]
  rfl

/-- A sweep accepted at the end of a command's reads: an idle engine begins its row 0 (R104). -/
theorem beginSweep_setStack (s : State) (k : StackSlot) {r : StackRecord} (hr : r.sweeping = true) :
    (s.commandLanded.setStack k r).beginSweep k = { s.commandLanded.setStack k r with
      sweep := if s.sweep = none ∧ s.sweepInFlight = false then
          some { slot := k, line := 0, step := if r.state = .clearing then .clear else .renderRead0 }
        else s.sweep } := by
  have hidle : ((s.commandLanded.setStack k r).sweep.isNone && !(s.commandLanded.setStack k r).sweepInFlight) = true
      ↔ s.sweep = none ∧ s.sweepInFlight = false := by
    have hfly : (s.commandLanded.setStack k r).sweepInFlight = s.sweepInFlight := by
      rw [State.sweepInFlight, setStack_inFlight]
      exact commandLanded_sweepInFlight s
    rw [hfly, setStack_sweep, Bool.and_eq_true, Option.isNone_iff_eq_none, Bool.not_eq_true']
    rfl
  rw [State.beginSweep]
  by_cases h : s.sweep = none ∧ s.sweepInFlight = false
  · rw [if_pos (hidle.2 h), if_pos h, State.takeUp, stack_setStack_self, if_pos hr, State.rowStart, stack_setStack_self]
  · rw [if_neg (mt hidle.1 h), if_neg h]
    cases k <;> rfl

/-- A sweep accepted, and the command ended with it. -/
theorem finish_beginSweep (c : CurrentCommand) (d : Nat) {s : State} (hs : s.Settled) (k : StackSlot) {r : StackRecord}
    (hr : r.sweeping = true) :
    ((s.commandLanded.setStack k r).beginSweep k).request.finish c .ok d
      = State.finish c .ok d { s.commandLanded.setStack k r with
        sweep := if s.sweep = none ∧ s.sweepInFlight = false then
            some { slot := k, line := 0, step := if r.state = .clearing then .clear else .renderRead0 }
          else s.sweep } := by
  obtain ⟨-, -, hattn⟩ := setStack_settled k r (commandLanded_settled hs)
  rw [beginSweep_setStack s k hr]
  exact finish_request c .ok d hattn

/-! ### RENDER_STACK (R108) -/

theorem runRenderStack_of_no_slot {c : CurrentCommand} (h : 1 < c.arg.toNat) (s : State) :
    s.runRenderStack c = s.finish c .badParameter 257 := by
  rw [State.runRenderStack, slotOf_eq_none h]

/-- A check that fails ends RENDER_STACK. -/
theorem runRenderStack_of_refused {s : State} {c : CurrentCommand} {k : StackSlot} {r : ResultCode} {d : Nat}
    (hk : c.arg.toNat = k.number) (h : s.renderCheck k = some (r, d)) : s.runRenderStack c = s.finish c r d := by
  simp only [State.runRenderStack, hk, slotOf_number, h]

theorem runRenderStack_of_accepted {s : State} {c : CurrentCommand} {k : StackSlot} (hk : c.arg.toNat = k.number)
    (h : s.renderCheck k = none) : s.runRenderStack c = (s.renderStack k).finish c .ok k.number := by
  simp only [State.runRenderStack, hk, slotOf_number, h]

/-- Settles O46: the two checks and the acceptance. -/
theorem renderStackIsCheckedAndAccepted : Obligations.RenderStackIsCheckedAndAccepted := by
  intro c first second s hs ha hc v ends
  have hv : v.Settled := commandLanded_settled hs.2
  have hends {r : ResultCode} {d : Nat} {w : State} (hw : w.Settled) (hrun : v.runRenderStack c = w.finish c r d) :
      ends r d w := by
    refine command_ends hs ha (by rw [hc]; rfl) hw ?_
    rwa [State.handOver, hc]
  refine ⟨fun harg => hends hv (runRenderStack_of_no_slot harg v), fun k hk => ⟨fun hstate => ?_, fun hopen hused => ?_,
    fun hopen hfree => ?_⟩⟩
  · exact hends hv (runRenderStack_of_refused hk (if_pos hstate))
  · exact hends hv (runRenderStack_of_refused hk ((if_neg (not_not.2 hopen)).trans (if_pos hused)))
  · have hcheck : v.renderCheck k = none := (if_neg (not_not.2 hopen)).trans (if_neg (by exact hfree.not_gt))
    have hset := setStack_settled k { s.stack k with state := .rendering, cursor := 0 } hv
    refine hends (by exact hset) ((runRenderStack_of_accepted hk hcheck).trans ?_)
    exact finish_beginSweep c k.number hs.2 k (r := { s.stack k with state := .rendering, cursor := 0 }) rfl

/-! ### OPEN_STACK (R101 to R103, R176) -/

theorem runOpenStack_of_no_slot {c : CurrentCommand} (h : 1 < c.arg.toNat) (p : StackParams) (s : State) :
    s.runOpenStack c p = s.finish c .badParameter 257 := by
  rw [State.runOpenStack, slotOf_eq_none h]

/-- A check that fails ends OPEN_STACK. -/
theorem runOpenStack_of_refused {s : State} {c : CurrentCommand} {p : StackParams} {k : StackSlot} {r : ResultCode}
    {d : Nat} (hk : c.arg.toNat = k.number) (h : s.openStackCheck k p = some (r, d)) :
    s.runOpenStack c p = s.finish c r d := by
  simp only [State.runOpenStack, hk, slotOf_number, h]

theorem runOpenStack_of_accepted {s : State} {c : CurrentCommand} {p : StackParams} {k : StackSlot}
    (hk : c.arg.toNat = k.number) (h : s.openStackCheck k p = none) :
    s.runOpenStack c p = (s.openStack k p).finish c .ok k.number := by
  simp only [State.runOpenStack, hk, slotOf_number, h]

/-- The states in which a slot takes no OPEN_STACK (R101). -/
theorem mem_occupied_iff (r : StackState) :
    r ∈ [StackState.clearing, .openState, .rendering] ↔ r ≠ .empty ∧ r ≠ .rendered := by
  cases r <;> decide

/-- The states in which a slot takes an OPEN_STACK (R101). -/
theorem mem_vacant_iff (r : StackState) : r ∈ [StackState.empty, .rendered] ↔ ¬ (r ≠ .empty ∧ r ≠ .rendered) := by
  cases r <;> decide

/-- The record of a stack as OPEN_STACK leaves it (R103). -/
def StackParams.opened (p : StackParams) : StackRecord :=
  { state := .clearing, cellBase := p.cellBase, outputBase := p.outputBase, width := p.width, height := p.height
    Nrej := p.Nrej, cursor := 0, refCount := 0 }

/-- The parameters of OPEN_STACK are those its block lays out. -/
theorem stackParams_laidOut (first second : Line) :
    let at_ := blockField first second
    stackParams (block first second) = {
      cellBase := at_ 0x00 8, outputBase := at_ 0x08 8, width := at_ 0x10 2, height := at_ 0x12 2
      Nrej := at_ 0x14 1 } := by
  simp only [stackParams, bytesAt_block]

/-! ### The overlaps (R102) -/

/-- A new region meets a region exactly when a byte of either new region lies in it. -/
theorem overlap_iff (p : StackParams) (base size : Nat) :
    p.overlap base size = true ↔
      (∃ x, p.cellBase ≤ x ∧ x < p.cellBase + p.width * p.height * 8 ∧ base ≤ x ∧ x < base + size)
        ∨ ∃ x, p.outputBase ≤ x ∧ x < p.outputBase + p.width * p.height * 4 ∧ base ≤ x ∧ x < base + size := by
  rw [StackParams.overlap, Bool.or_eq_true, overlaps_iff, overlaps_iff]

/-- The new regions meet the other stack's when it is not EMPTY and one of its regions meets one of theirs. -/
theorem regionsOverlap_iff (o : StackRecord) (p : StackParams) :
    (o.regionsOverlap p.cellBase (p.width * p.height * 8)
        || o.regionsOverlap p.outputBase (p.width * p.height * 4)) = true
      ↔ o.state ≠ .empty ∧ (p.overlap o.cellBase o.cellSize = true ∨ p.overlap o.outputBase o.outputSize = true) := by
  simp only [StackRecord.regionsOverlap, StackParams.overlap, Bool.or_eq_true, Bool.and_eq_true, bne_iff_ne,
    overlaps_comm o.cellBase, overlaps_comm o.outputBase]
  tauto

/-- The first element of a range that a test selects. -/
theorem find?_finRange_eq_some {n : Nat} {p : Fin n → Bool} {i : Fin n} (hi : p i = true)
    (hbelow : ∀ j, j < i → p j = false) : (List.finRange n).find? p = some i := by
  rw [List.find?_eq_some_iff_getElem]
  refine ⟨hi, i.1, by simp, by simp, fun j hj => ?_⟩
  rw [List.getElem_finRange, Bool.not_eq_true']
  exact hbelow _ hj

/-- Settles O45: the checks of R101 in their order and the acceptance, then the overlaps of R102 in theirs. -/
theorem openStackIsCheckedAndAccepted : Obligations.OpenStackIsCheckedAndAccepted := by
  constructor
  · intro c first second s hs ha hc p at_ v ends
    have hv : v.Settled := commandLanded_settled hs.2
    have hends {r : ResultCode} {d : Nat} {w : State} (hw : w.Settled) (hrun : v.runOpenStack c p = w.finish c r d) :
        ends r d w := by
      refine command_ends hs ha (by rw [hc]; rfl) hw ?_
      rwa [State.handOver, hc]
    refine ⟨stackParams_laidOut first second, fun harg => hends hv (runOpenStack_of_no_slot harg p v), ?_⟩
    intro k hk fits
    have hrefused {r : ResultCode} {d : Nat} (h : v.openStackCheck k p = some (r, d)) : ends r d v :=
      hends hv (runOpenStack_of_refused hk h)
    refine ⟨fun hstate => hrefused (if_pos ((mem_occupied_iff _).1 hstate)), fun hstate => ?_⟩
    have hvacant : v.openStackCheck k p = _ := if_neg ((mem_vacant_iff _).1 hstate)
    refine ⟨fun hcells => hrefused (hvacant.trans (if_pos hcells)), fun hcells => ?_⟩
    have hcellBase := hvacant.trans (if_neg (not_not.2 hcells))
    refine ⟨fun hpixels => hrefused (hcellBase.trans (if_pos hpixels)), fun hpixels => ?_⟩
    have houtputBase := hcellBase.trans (if_neg (not_not.2 hpixels))
    refine ⟨fun hw => hrefused (houtputBase.trans (if_pos (by omega))), fun hw0 hw1 hw2 => ?_⟩
    have hwidth := houtputBase.trans (if_neg (by omega))
    refine ⟨fun hh => hrefused (hwidth.trans (if_pos (by omega))), fun hh0 hh1 => ?_⟩
    have hheight := hwidth.trans (if_neg (by omega))
    refine ⟨fun hrej => hrefused (hheight.trans (if_pos hrej)), fun hrej => ?_⟩
    have hNrej := hheight.trans (if_neg (by omega))
    refine ⟨fun hfit => hrefused (hNrej.trans (if_pos ?_)), fun ⟨hfitCells, hfitPixels⟩ => ?_⟩
    · exact (not_and_or.1 hfit).imp Nat.not_le.1 Nat.not_le.1
    have hfits := hNrej.trans (if_neg (not_or.2 ⟨Nat.not_lt.2 hfitCells, Nat.not_lt.2 hfitPixels⟩))
    refine ⟨fun d hd => hrefused (hfits.trans (congrArg (Option.map _) hd)), fun hd => ?_⟩
    have hset := setStack_settled k p.opened hv
    refine hends (by exact hset) ((runOpenStack_of_accepted hk (hfits.trans (congrArg (Option.map _) hd))).trans ?_)
    exact finish_beginSweep c k.number hs.2 k (r := p.opened) rfl
  · intro k p s meet cells pixels meets o no1 met2 met3 met4
    have hnew : overlaps p.cellBase cells p.outputBase pixels = true ↔ ¬ no1 := (overlaps_iff ..).trans not_not.symm
    have hother : (o.regionsOverlap p.cellBase cells || o.regionsOverlap p.outputBase pixels) = true ↔ met2 := by
      rw [regionsOverlap_iff, overlap_iff, overlap_iff]
      rfl
    have hcontrol : p.overlap s.controlBase Config.controlAreaSize = true ↔ met3 := overlap_iff ..
    have hwindow (i : SegIdx) :
        (s.segs[i].valid && p.overlap s.segs[i].rawBase s.segs[i].windowSize) = true ↔ met4 i := by
      rw [Bool.and_eq_true, overlap_iff]
    have hpast (h1 : no1) (h2 : ¬ met2) (h3 : ¬ met3) :
        s.overlapDetail k p = (s.windowMet p).map fun i => 256 + i.1 :=
      ((if_neg (mt hnew.1 (not_not.2 h1))).trans (if_neg (mt hother.1 h2))).trans (if_neg (mt hcontrol.1 h3))
    refine ⟨fun h1 => if_pos (hnew.2 h1), fun h1 h2 => ?_, fun h1 h2 h3 => ?_, fun i h1 h2 h3 h4 hbelow => ?_,
      fun h1 h2 h3 h4 => ?_⟩
    · exact (if_neg (mt hnew.1 (not_not.2 h1))).trans (if_pos (hother.2 h2))
    · exact ((if_neg (mt hnew.1 (not_not.2 h1))).trans (if_neg (mt hother.1 h2))).trans (if_pos (hcontrol.2 h3))
    · have hmet : s.windowMet p = some i := find?_finRange_eq_some ((hwindow i).2 h4) fun j hj =>
        Bool.eq_false_iff.2 (mt (hwindow j).1 (hbelow j hj))
      rw [hpast h1 h2 h3, hmet]
      rfl
    · have hmet : s.windowMet p = none := List.find?_eq_none.2 fun i _ => mt (hwindow i).1 (h4 i)
      rw [hpast h1 h2 h3, hmet]
      rfl

/-! ### DISCARD_STACK (R114, R115) -/

theorem runDiscardStack_of_no_slot {c : CurrentCommand} (h : 1 < c.arg.toNat) (s : State) :
    s.runDiscardStack c = s.finish c .badParameter 257 := by
  rw [State.runDiscardStack, slotOf_eq_none h]

theorem runDiscardStack_of_used {s : State} {c : CurrentCommand} {k : StackSlot} (hk : c.arg.toNat = k.number)
    (h : 0 < (s.stack k).refCount) : s.runDiscardStack c = s.finish c .stackInUse (s.stack k).refCount := by
  simp only [State.runDiscardStack, hk, slotOf_number, h, if_true]

theorem runDiscardStack_of_accepted {s : State} {c : CurrentCommand} {k : StackSlot} (hk : c.arg.toNat = k.number)
    (h : (s.stack k).refCount = 0) : s.runDiscardStack c = s.discard c k := by
  simp only [State.runDiscardStack, hk, slotOf_number, h, lt_irrefl, if_false]

/-- The state with a stack EMPTY, its record's other fields kept (R114). -/
def State.emptied (k : StackSlot) (s : State) : State := s.setStack k { s.stack k with state := .empty }

theorem emptied_settled (k : StackSlot) {s : State} (hs : s.Settled) : (s.emptied k).Settled := setStack_settled k _ hs

/-- The state in which a discard waits for a transfer of its sweep, which it has let go (R115). -/
def State.awaitingSweep (c : CurrentCommand) (k : StackSlot) (s : State) : State :=
  { s.emptied k with
    sweep := none, engine := .executing c (.discarding (s.stack k).state.number)
    inFlight := s.inFlight.map fun f => if f.owner.sweepOf k then { f with live := false } else f }

/-- A discard with a transfer of its sweep in flight lets it go and waits for it. -/
theorem discard_of_flying {s : State} {k : StackSlot} (c : CurrentCommand)
    (h : (s.inFlight.any fun f => f.live && f.owner.sweepOf k) = true) :
    s.discard c k = (s.awaitingSweep c k).request := by
  rw [State.discard, if_pos h, request_inFlight, setStack_inFlight]
  rfl

/-- A discard of a stack that the sweep engine does not work on ends at once. -/
theorem discard_of_elsewhere {s : State} {k : StackSlot} (c : CurrentCommand) (hs : s.Settled)
    (h : (s.inFlight.any fun f => f.live && f.owner.sweepOf k) = false) (hw : ∀ w, s.sweep = some w → w.slot ≠ k) :
    s.discard c k = (s.emptied k).finish c .ok (s.stack k).state.number := by
  have hworks : (s.sweep.any fun w => w.slot == k) = false := by
    cases hsweep : s.sweep with
    | none => rfl
    | some w => simpa using hw w hsweep
  rw [State.discard, if_neg (by rw [h]; decide), if_neg (by rw [hworks]; decide)]
  exact finish_request c .ok _ (emptied_settled k hs).2.2

/-- A discard of the stack that the sweep engine works on withdraws what it presents and takes up the next row. -/
theorem discard_of_working {s : State} {k : StackSlot} (c : CurrentCommand) (hs : s.Settled)
    (h : (s.inFlight.any fun f => f.live && f.owner.sweepOf k) = false) {w : SweepWork} (hw : s.sweep = some w)
    (hk : w.slot = k) :
    s.discard c k = State.finish c .ok (s.stack k).state.number { s.emptied k with
      sweep := (s.emptied k).nextRow k, sweepWait := 0 } := by
  have hworks : (s.sweep.any fun w => w.slot == k) = true := by simp [hw, hk]
  rw [State.discard, if_neg (by rw [h]; decide), if_pos hworks, takeUp_other]
  exact finish_request c .ok _ (v := { s.emptied k with sweep := (s.emptied k).nextRow k, sweepWait := 0 })
    (emptied_settled k hs).2.2

/-! ### The termination of a transfer let go (R115, R118) -/

theorem takeUp_zero (s : State) : s.takeUp .zero = { s with sweep := s.nextRow .one } := takeUp_other .one s

theorem sweepLetGo_of_elsewhere {s : State} (hw : s.sweep = none)
    (heng : ∀ c was, s.engine ≠ .executing c (.discarding was)) :
    s.sweepLetGo = { s with sweep := s.nextRow .one } := by
  rw [State.sweepLetGo, hw, takeUp_zero]
  simp only [Option.isNone_none, if_true]

/-- The DISCARD_STACK that waited ends. -/
theorem sweepLetGo_of_discarding {s : State} {c : CurrentCommand} {was : Nat} (hw : s.sweep = none)
    (heng : s.engine = .executing c (.discarding was)) :
    s.sweepLetGo = State.finish c .ok was { s with sweep := s.nextRow .one } := by
  rw [State.sweepLetGo, hw, takeUp_zero]
  simp only [Option.isNone_none, if_true, heng]

/-- A clear write, a render read or a render write let go, however memory terminates it. -/
theorem exec_letGo {command : Termination → Instr} {mine : Owner → Bool} {f : InFlight} {s : State}
    (h : (command = .clearWriteDone ∧ mine = Owner.isClear) ∨ (command = .renderReadDone ∧ mine = Owner.isRenderRead)
      ∨ (command = .renderWriteDone ∧ mine = Owner.isRenderWrite))
    (hs : s.Running) (hf : s.findInFlight (fun x => mine x.owner) = some f) (hlive : f.live = false)
    (result : Termination) :
    exec (command result) s = .next ((s.land fun x => mine x.owner).sweepLetGo).settleRequests := by
  obtain ⟨rfl, rfl⟩ | ⟨rfl, rfl⟩ | ⟨rfl, rfl⟩ := h
  · rw [exec_clearWriteDone, execClearWriteDone, act_of_released hs.1]
    simp only [hf, hlive]
  · rw [exec_renderReadDone, execRenderReadDone, act_of_released hs.1]
    simp only [hf, hlive]
  · rw [exec_renderWriteDone, execRenderWriteDone, act_of_released hs.1]
    simp only [hf, hlive]

/-- Settles O47: the refusals, the three ways of an accepted discard, and the termination of a transfer let go. -/
theorem discardStackStopsItsSweep : Obligations.DiscardStackStopsItsSweep := by
  constructor
  · intro c first second s hs ha hc v ends
    have hv : v.Settled := commandLanded_settled hs.2
    have hhand : v.handOver c (block first second) = v.runDiscardStack c := by rw [State.handOver, hc]
    have hends {r : ResultCode} {d : Nat} {w : State} (hw : w.Settled) (hrun : v.runDiscardStack c = w.finish c r d) :
        ends r d w :=
      command_ends hs ha (by rw [hc]; rfl) hw (hhand.trans hrun)
    refine ⟨fun harg => hends hv (runDiscardStack_of_no_slot harg v), ?_⟩
    intro k hk was emptied flying
    have hempty := emptied_settled k hv
    have haccepted (hfree : (s.stack k).refCount = 0) : v.runDiscardStack c = v.discard c k :=
      runDiscardStack_of_accepted hk hfree
    refine ⟨fun hused => hends hv (runDiscardStack_of_used hk hused), fun hfree hfly => ?_, fun hfree hfly hw => ?_,
      fun hfree hfly ⟨w, hw, hslot⟩ => ?_⟩
    · have hrun := hhand.trans ((haccepted hfree).trans (discard_of_flying c hfly))
      obtain ⟨hu, hrewrite⟩ := request_settled (v := v.awaitingSweep c k) hempty
      refine ⟨_, exec_parameterReadDone_second second hs ha, ?_⟩
      rw [hrun]
      exact ⟨hu, rewritesAfter_congr (v := v.awaitingSweep c k) (setStack_rewriteCount ..) (setStack_rewrite ..)
        (setStack_mark ..) hrewrite⟩
    · exact hends hempty ((haccepted hfree).trans (discard_of_elsewhere c hv hfly hw))
    · exact hends hempty ((haccepted hfree).trans (discard_of_working c hv hfly hw hslot))
  · intro command mine f result s hcommand hs hf hlive hw v
    have hexec := exec_letGo hcommand hs hf hlive result
    set landed := s.land fun x => mine x.owner
    have hidle : landed.sweep = none := hw
    refine ⟨fun heng => ?_, fun c was heng => ⟨_, hexec, ?_⟩⟩
    · rw [hexec, sweepLetGo_of_elsewhere hidle heng]
      exact next_settleRequests hs.2
    · rw [sweepLetGo_of_discarding hidle heng]
      exact finish_endedWith c .ok was (v := v) hs.2

end Sys2Proof.Machine
end

section
/-! The watch unit: the comparison of a contribution with the four entries (R120, R123, R124), and SET_WATCH's checks
and replacement (R121, R122). Settles O26 and O48. -/

namespace Sys2Proof.Machine

/-! ### The match of an entry (R120, R123) -/

theorem coordinateMatches_iff (w x : Nat) : coordinateMatches w x = true ↔ (0xC000 ≤ w ∧ w ≤ 0xFFFF) ∨ w = x := by
  rw [coordinateMatches, Bool.or_eq_true, decide_eq_true_iff, beq_iff_eq]

theorem ContribKind.qualifies_iff (k : ContribKind) (threshold : Int) :
    k.qualifies threshold = true ↔ k = .satOnly ∨ ∃ V d, k = .add V d ∧ threshold ≤ V := by
  cases k with
  | add V d => simp [ContribKind.qualifies]
  | satOnly => simp [ContribKind.qualifies]

theorem WatchEntry.matches_iff (w : WatchEntry) (c : Contribution) :
    w.matches c = true ↔
      w.enabled = true ∧ c.stackSlot = w.stackSlot ∧ ((0xC000 ≤ w.x ∧ w.x ≤ 0xFFFF) ∨ w.x = c.x)
        ∧ ((0xC000 ≤ w.y ∧ w.y ≤ 0xFFFF) ∨ w.y = c.y)
        ∧ (c.kind = .satOnly ∨ ∃ V d, c.kind = .add V d ∧ w.threshold ≤ V) := by
  simp only [WatchEntry.matches, Bool.and_eq_true, beq_iff_eq, coordinateMatches_iff, ContribKind.qualifies_iff,
    and_assoc]

/-! ### The record of a match (R124) -/

/-- A match leaves a hit record: the entry's own if it holds one, otherwise the contribution's. -/
theorem WatchEntry.record_eq (c : Contribution) (w : WatchEntry) :
    w.record c = { w with hitCount := min 65535 (w.hitCount + 1), hit := some (w.hit.getD (hitOf c)) } := by
  rw [WatchEntry.record]
  cases w.hit with
  | none => rfl
  | some h => rfl

/-- The four entries after the comparison, each with the contribution recorded if it matches. -/
def State.withHits (c : Contribution) (s : State) : State :=
  { s with watch := Vector.ofFn fun i => if s.watch[i].matches c then s.watch[i].record c else s.watch[i] }

theorem withHits_watch (c : Contribution) (s : State) (i : Fin 4) :
    (s.withHits c).watch[i] = if s.watch[i].matches c then s.watch[i].record c else s.watch[i] :=
  Vector.getElem_ofFn i.2

theorem any_watch_iff (p : WatchEntry → Bool) (s : State) :
    s.watch.toList.any p = true ↔ ∃ i : Fin 4, p s.watch[i] = true := by
  rw [List.any_eq_true]
  constructor
  · rintro ⟨w, hw, hp⟩
    obtain ⟨i, hi, rfl⟩ := Vector.mem_iff_getElem.1 (Vector.mem_toList_iff.1 hw)
    exact ⟨⟨i, hi⟩, hp⟩
  · rintro ⟨i, hp⟩
    exact ⟨s.watch[i], Vector.mem_toList_iff.2 (Vector.getElem_mem i.2), hp⟩

/-- A contribution that some entry matches is recorded, sets WATCH_HIT once and requests one rewrite. -/
theorem watchCompare_of_match {c : Contribution} {s : State} (h : ∃ i : Fin 4, s.watch[i].matches c = true) :
    s.watchCompare c = ((s.withHits c).setFlag .watchHit).request :=
  if_pos ((any_watch_iff _ s).2 h)

theorem watchCompare_of_no_match {c : Contribution} {s : State} (h : ∀ i : Fin 4, ¬ s.watch[i].matches c = true) :
    s.watchCompare c = s :=
  if_neg (mt (any_watch_iff _ s).1 (not_exists.2 h))

/-- What the comparison leaves in each entry, whether or not another entry matches. -/
theorem watchCompare_watch (c : Contribution) (s : State) (i : Fin 4) :
    (s.watchCompare c).watch[i] = if s.watch[i].matches c then s.watch[i].record c else s.watch[i] := by
  by_cases h : ∃ j : Fin 4, s.watch[j].matches c = true
  · simp only [watchCompare_of_match h, request_watch, setFlag_watch, withHits_watch]
  · have hnone := not_exists.1 h
    rw [watchCompare_of_no_match hnone, if_neg (hnone i)]

/-- Settles O26: each entry by itself, then the state without a match and with one. -/
theorem watchEntriesCompareAContribution : Obligations.WatchEntriesCompareAContribution := by
  intro c s hs at_ matched value u
  have hmatched (w : WatchEntry) : w.matches c = true ↔ matched w := w.matches_iff c
  refine ⟨fun i => ⟨fun hi => ?_, fun hi => ?_⟩, fun hnone => ?_, fun ⟨i, hi⟩ => ?_⟩
  · exact ((watchCompare_watch c s i).trans (if_pos ((hmatched _).2 hi))).trans (WatchEntry.record_eq c _)
  · exact (watchCompare_watch c s i).trans (if_neg (mt (hmatched _).1 hi))
  · exact watchCompare_of_no_match fun i => mt (hmatched _).1 (hnone i)
  · have hu : u = ((s.withHits c).setFlag .watchHit).request := watchCompare_of_match ⟨i, (hmatched _).2 hi⟩
    have ha : (s.withHits c).attn = attention (s.withHits c).flags (s.withHits c).enables := hs.2.2
    rw [hu]
    refine ⟨?_, setFlag_flagsSet .watchHit ha⟩
    rw [setFlag_eq _ _ ha]
    rfl

/-! ### The parameters of SET_WATCH (R176) -/

/-- A signed field of any size of the structure that two lines hold. -/
theorem signedOf_bytesAt_block_of_size (first second : Line) (off size : Nat) :
    signedOf (8 * size) (bytesAt (block first second) off size) = blockSigned first second off size := by
  rw [bytesAt_block, signedOf, blockSigned]
  simp only [← Nat.cast_lt (α := Int), Nat.cast_pow, Nat.cast_ofNat]

theorem watchParams_laidOut (first second : Line) :
    let at_ := blockField first second
    watchParams (block first second) = {
      enabled := at_ 0x00 1 % 2 == 1, slot := at_ 0x01 1, x := at_ 0x02 2, y := at_ 0x04 2
      threshold := blockSigned first second 0x08 4 } := by
  simp only [watchParams, bytesAt_block, ← signedOf_bytesAt_block_of_size]

/-! ### The checks and the replacement (R121, R122) -/

theorem badCoordinate_iff (x : Nat) : badCoordinate x = true ↔ 16384 ≤ x ∧ x ≤ 0xBFFF := decide_eq_true_iff

theorem slotOf_isNone_iff (n : Nat) : (slotOf n).isNone = true ↔ 1 < n := by
  match n with
  | 0 => decide
  | 1 => decide
  | n + 2 => simp [slotOf]

/-- A check that fails ends SET_WATCH. -/
theorem runSetWatch_of_refused {c : CurrentCommand} {p : WatchParams} {r : ResultCode} {d : Nat}
    (h : watchCheck c.arg.toNat p = some (r, d)) (s : State) : s.runSetWatch c p = s.finish c r d := by
  simp only [State.runSetWatch, h]

theorem runSetWatch_of_accepted {c : CurrentCommand} {p : WatchParams} (h : watchCheck c.arg.toNat p = none)
    (s : State) : s.runSetWatch c p = (s.replaceWatch c.arg.toNat p).finish c .ok c.arg.toNat := by
  simp only [State.runSetWatch, h]

theorem watchEntryOf_eq {p : WatchParams} {k : StackSlot} (hk : p.slot = k.number) :
    watchEntryOf p = {
      enabled := p.enabled, stackSlot := k, x := p.x, y := p.y, threshold := p.threshold, hit := none
      hitCount := 0 } := by
  rw [watchEntryOf, hk, slotOf_number, Option.getD_some]

/-- The four entries after a replacement. -/
theorem replaceWatch_watch {arg : Nat} (harg : arg ≤ 3) (p : WatchParams) (s : State) (i : Fin 4) :
    (s.replaceWatch arg p).watch[i] = if i.1 = arg then watchEntryOf p else s.watch[i] := by
  have hindex : (Fin.ofNat 4 arg).1 = arg := Nat.mod_eq_of_lt (by omega)
  have hset : (s.replaceWatch arg p).watch[i]
      = if (Fin.ofNat 4 arg).1 = i.1 then watchEntryOf p else s.watch[i] := Vector.getElem_set (hi := Fin.isLt _) i.2
  rw [hset, hindex]
  exact if_congr eq_comm rfl rfl

/-- Settles O48: the parameters, the checks of R121 in their order, and the replacement of R122. -/
theorem setWatchIsCheckedAndReplaces : Obligations.SetWatchIsCheckedAndReplaces := by
  intro c first second s hs ha hc p at_ v bad ends
  have hv : v.Settled := commandLanded_settled hs.2
  have hends {r : ResultCode} {d : Nat} {w : State} (hw : w.Settled) (hrun : v.runSetWatch c p = w.finish c r d) :
      ends r d w := by
    refine command_ends hs ha (by rw [hc]; rfl) hw ?_
    rwa [State.handOver, hc]
  have hrefused {r : ResultCode} {d : Nat} (h : watchCheck c.arg.toNat p = some (r, d)) : ends r d v :=
    hends hv (runSetWatch_of_refused h v)
  have hpastArg (harg : c.arg.toNat ≤ 3) : watchCheck c.arg.toNat p = _ := if_neg (Nat.not_lt.2 harg)
  have hpastSlot (harg : c.arg.toNat ≤ 3) (hslot : p.slot ≤ 1) : watchCheck c.arg.toNat p = _ :=
    (hpastArg harg).trans (if_neg (mt (slotOf_isNone_iff _).1 (Nat.not_lt.2 hslot)))
  have hpastX (harg : c.arg.toNat ≤ 3) (hslot : p.slot ≤ 1) (hx : ¬ bad p.x) : watchCheck c.arg.toNat p = _ :=
    (hpastSlot harg hslot).trans (if_neg (mt (badCoordinate_iff _).1 hx))
  refine ⟨watchParams_laidOut first second, fun harg => ?_, fun harg hslot => ?_, fun harg hslot hx => ?_,
    fun harg hslot hx hy => ?_, fun k harg hk hx hy => ?_⟩
  · exact hrefused (if_pos harg)
  · exact hrefused ((hpastArg harg).trans (if_pos ((slotOf_isNone_iff _).2 hslot)))
  · exact hrefused ((hpastSlot harg hslot).trans (if_pos ((badCoordinate_iff _).2 hx)))
  · exact hrefused ((hpastX harg hslot hx).trans (if_pos ((badCoordinate_iff _).2 hy)))
  · have hslot : p.slot ≤ 1 := by cases k <;> simp [hk, StackSlot.number]
    have hcheck := (hpastX harg hslot hx).trans (if_neg (mt (badCoordinate_iff _).1 hy))
    refine ⟨v.replaceWatch c.arg.toNat p, rfl, hends hv (runSetWatch_of_accepted hcheck v), fun i => ?_⟩
    rw [replaceWatch_watch harg, watchEntryOf_eq hk]
    rfl

end Sys2Proof.Machine
end

section
/-! The camera-side port's takes while a locked sequence is under way, and its LOCKED writes without one (R130, R140 to
R142). Settles O6. -/

namespace Sys2Proof.Machine

/-! ### The take (R129, R130, R140) -/

/-- A free C-port of a part that runs takes an aligned transfer. -/
theorem exec_cameraTransfer_taken {t : Transfer} {s : State} (hs : s.Running) (hc : s.current = none)
    (ha : t.aligned = true) : exec (.cameraTransfer t) s = .next (s.route t).settleRequests := by
  have htake : s.take t = s.route t := by simp [State.take, hc, ha]
  rw [← htake]
  exact act_of_released hs.1

/-- A take that requests nothing reaches the state its classification makes. -/
theorem exec_cameraTransfer_of_settled {t : Transfer} {s u : State} (hs : s.Running) (hc : s.current = none)
    (ha : t.aligned = true) (hroute : s.route t = u) (hu : u.Settled) : exec (.cameraTransfer t) s = .next u := by
  rw [exec_cameraTransfer_taken hs hc ha, hroute, next_settleRequests hu]

theorem route_of_answered {t : Transfer} {level : BitVec 3} {s : State} (hop : t.op = .acknowledge level)
    (hlevel : s.answersLevel level = true) : s.route t = s.answer t (.done (BitVec.ofNat 256 s.cause)) := by
  simp only [State.route, hop, hlevel, if_true]

theorem route_of_unanswered {t : Transfer} {s : State}
    (h : ∀ level, t.op = .acknowledge level → s.answersLevel level = false) : s.route t = s.routeUnanswered t := by
  cases hop : t.op with
  | acknowledge level => simp [State.route, hop, h level hop]
  | _ => simp only [State.route, hop]

/-- A termination given at the take leaves the current transfer absent, as the take found it. -/
theorem answer_of_free {s : State} (hc : s.current = none) (t : Transfer) (a : Answer) :
    s.answer t a = { s with answers := (t, a) :: s.answers } := by
  rw [State.answer, ← hc]

/-! ### LOCKED writes (R141, R153) -/

theorem op_of_isLockedWrite {t : Transfer} (h : t.isLockedWrite = true) :
    ∃ d, t.op = .lockedWrite d ∨ t.op = .lockedLastWrite d := by
  cases hop : t.op with
  | lockedWrite d => exact ⟨d, .inl rfl⟩
  | lockedLastWrite d => exact ⟨d, .inr rfl⟩
  | _ => simp [Transfer.isLockedWrite, hop] at h

theorem route_of_isLockedWrite {t : Transfer} (h : t.isLockedWrite = true) (s : State) :
    s.route t = s.routeUnanswered t := by
  obtain ⟨d, hop | hop⟩ := op_of_isLockedWrite h <;> simp only [State.route, hop]

/-- Without a lock record a LOCKED write has no sequence to belong to. -/
theorem routeUnanswered_of_isLockedWrite {t : Transfer} {s : State} (hl : s.lock = none)
    (h : t.isLockedWrite = true) : s.routeUnanswered t = s.answer t .fault := by
  obtain ⟨d, hop | hop⟩ := op_of_isLockedWrite h <;> simp only [State.routeUnanswered, hl, hop]

/-- A LOCKED write waits behind no copy and opens no lock. -/
theorem forward_of_isLockedWrite {t : Transfer} (h : t.isLockedWrite = true) (s : State) :
    s.forward t = { s with current := some { transfer := t, stage := .forwarding } } := by
  obtain ⟨d, hop | hop⟩ := op_of_isLockedWrite h <;>
    simp [State.forward, State.copiesNoted, State.handOn, Transfer.isLockedRead, Transfer.isPlainRead,
      Transfer.isPlainWrite, hop]

/-! ### A transfer taken while the lock record is present (R141, R142) -/

theorem routeUnanswered_of_lock {t : Transfer} {l : LockRecord} {s : State} (hl : s.lock = some l) :
    s.routeUnanswered t = s.routeLocked l t := by
  simp only [State.routeUnanswered, hl]

theorem routeLocked_of_other {t : Transfer} {l : LockRecord} (h : t.initiator ≠ l.initiator) (s : State) :
    s.routeLocked l t = s.answer t .retry := if_pos h

theorem routeLocked_of_sequence {t : Transfer} {l : LockRecord} (hi : t.initiator = l.initiator)
    (h : t.isLockedWrite = true ∧ lineOf t.start = l.line) (s : State) : s.routeLocked l t = s.routeSequence t := by
  rw [State.routeLocked, if_neg (not_not_intro hi), if_pos h]

theorem routeLocked_of_outside {t : Transfer} {l : LockRecord} (hi : t.initiator = l.initiator)
    (h : ¬ (t.isLockedWrite = true ∧ lineOf t.start = l.line)) (s : State) : s.routeLocked l t = s.abandon t := by
  rw [State.routeLocked, if_neg (not_not_intro hi), if_neg h]

theorem routeSequence_of_window {t : Transfer} {s : State} (hw : (s.windowOf t).isSome) :
    s.routeSequence t = s.malformed.abandon t := if_pos hw

/-- Off the raw windows, a write of the sequence is blocked by a cell region or the output region being rendered. -/
theorem routeSequence_of_region {t : Transfer} {s : State} (hw : s.windowOf t = none)
    (h : (s.cellRegionOf t).isSome ∨ ∃ k, s.outputRegionOf t = some k ∧ (s.stack k).state = .rendering) :
    s.routeSequence t = s.blocked.abandon t := by
  simp only [State.routeSequence, hw, Option.isSome_none, Bool.false_eq_true, if_false]
  rcases h with hcell | ⟨k, hk, hrendering⟩
  · exact if_pos hcell
  · simp [hk, hrendering]

theorem routeSequence_of_clear {t : Transfer} {s : State} (hw : s.windowOf t = none) (hcell : s.cellRegionOf t = none)
    (hout : ∀ k, s.outputRegionOf t = some k → (s.stack k).state ≠ .rendering) : s.routeSequence t = s.forward t := by
  simp only [State.routeSequence, hw, hcell, Option.isSome_none, Bool.false_eq_true, if_false]
  refine if_neg fun hany => ?_
  obtain ⟨k, hk, hrendering⟩ := (Option.any_eq_true _ _).1 hany
  exact hout k hk (eq_of_beq hrendering)

/-! ### A write of the sequence refused (R132, R137, R141) -/

/-- The end of the lock and the FAULT take no part in what is signalled. -/
theorem Signals.abandon {wanted : Bool} {fs : List Flag} {cs : List Counter} {v w : State}
    (h : Signals wanted fs cs v w) (t : Transfer) : Signals wanted fs cs (v.abandon t) (w.abandon t) := by
  obtain ⟨counters, rfl, hcounters⟩ := h
  exact ⟨counters, rfl, hcounters⟩

/-- A flag set, a counter raised and the sequence abandoned: the transfer is refused and its lock is gone. -/
theorem abandon_refusedWith (f : Flag) (c : Counter) (t : Transfer) {s : State} (hs : s.Settled) :
    RefusedWith f c t { s with lock := none, lockState := .free }
      (((s.setFlag f).bump c).abandon t).settleRequests := by
  have hsignals : Signals (s.someClear [f]) [f] [c] s ((s.setFlag f).bump c) := by
    simpa [State.someClear] using ((signals_nothing hs).setFlag f).bump c
  exact (hsignals.abandon t).settled hs.1 hs.2.1

/-! ### The obligation -/

/-- Settles O6: another initiator than the locking one, the locking one in and outside its sequence, and no lock. -/
theorem transfersDuringALock : Obligations.TransfersDuringALock := by
  refine ⟨fun t l s hs hc ha hl hi => ⟨fun hun => ?_, fun level hop hlevel => ?_⟩,
    fun t s hs hc ha => ⟨fun l hl hi => ?_, fun hl hlocked => ?_⟩⟩
  · refine exec_cameraTransfer_of_settled hs hc ha ?_ hs.2
    rw [route_of_unanswered hun, routeUnanswered_of_lock hl, routeLocked_of_other hi, answer_of_free hc]
  · refine exec_cameraTransfer_of_settled hs hc ha ?_ hs.2
    rw [route_of_answered hop hlevel, answer_of_free hc]
  · intro inSequence abandoned
    have hsequence (hin : inSequence) : s.route t = s.routeSequence t := by
      rw [route_of_isLockedWrite hin.1, routeUnanswered_of_lock hl, routeLocked_of_sequence hi hin]
    have hrefused {f : Flag} {c : Counter} (h : s.route t = ((s.setFlag f).bump c).abandon t) :
        ∃ u, exec (.cameraTransfer t) s = .next u ∧ RefusedWith f c t abandoned u :=
      ⟨_, (exec_cameraTransfer_taken hs hc ha).trans (by rw [h]), abandon_refusedWith f c t hs.2⟩
    refine ⟨fun hin hw hcell hout => ?_, fun hin hw => ?_, fun hin hw hregion => ?_, fun hout hun => ?_⟩
    · refine exec_cameraTransfer_of_settled hs hc ha ?_ hs.2
      rw [hsequence hin, routeSequence_of_clear hw hcell hout, forward_of_isLockedWrite hin.1]
    · exact hrefused ((hsequence hin).trans (routeSequence_of_window hw))
    · exact hrefused ((hsequence hin).trans (routeSequence_of_region hw hregion))
    · refine exec_cameraTransfer_of_settled hs hc ha ?_ hs.2
      rw [route_of_unanswered hun, routeUnanswered_of_lock hl, routeLocked_of_outside hi hout]
      rfl
  · refine exec_cameraTransfer_of_settled hs hc ha ?_ hs.2
    rw [route_of_isLockedWrite hlocked, routeUnanswered_of_isLockedWrite hl hlocked, State.answer]

end Sys2Proof.Machine
end

section
/-! The cause of an acknowledge, and the control area's words at their takes: the acknowledge word (R125, R168), and a
command word written while a command executes (R159). Settles O14, O15 and O41. -/

namespace Sys2Proof.Machine

/-! ### The cause (R167, R171) -/

/-- The search of the cause is the search for the first set bit of a list of positions. -/
theorem lowestFlag_eq_find? (w : BitVec 15) (l : List Nat) :
    lowestFlag w l = (l.find? fun n => w.getLsbD n).elim 0 (· + 1) := by
  induction l with
  | nil => rfl
  | cons n rest ih =>
    rw [lowestFlag, ih]
    cases hn : w.getLsbD n <;> simp [hn]

/-- The attention line is asserted by a flag that is both set and enabled (R167). -/
theorem attention_iff (flags enables : BitVec 15) :
    attention flags enables = true ↔ ∃ n < 15, (flags &&& enables).getLsbD n = true := by
  rw [attention, bne_iff_ne]
  constructor
  · intro hne
    by_contra hnone
    push Not at hnone
    exact hne (BitVec.eq_of_getLsbD_eq fun n hn => by simpa using hnone n hn)
  · rintro ⟨n, -, hn⟩ hzero
    simp [hzero] at hn

/-- Every bit of the flag word is some flag's (R166). -/
theorem exists_flag_bit {n : Nat} (h : n < 15) : ∃ f : Flag, f.bit = n := by
  have hall : ∀ n < 15, ∃ f ∈ [Flag.memoryFault, .stackFault, .reportFault, .malformedRaw, .blockedWrite,
      .commandRefusedBusy, .exposureCut, .depthOverflow, .biasRowLost, .orphanPixels, .watchHit, .exposureDone,
      .stackRendered, .stackReady, .commandDone], f.bit = n := by decide
  obtain ⟨f, -, hf⟩ := hall n h
  exact ⟨f, hf⟩

theorem cause_of_quiet {s : State} (h : s.attn = false) : s.cause = 0 := by
  simp [State.cause, h]

/-- The cause under an asserted attention line is the number of the lowest flag set and enabled. -/
theorem cause_of_attn {s : State} (hs : s.Settled) (h : s.attn = true) :
    ∃ f : Flag, s.cause = f.bit + 1 ∧ s.flagSet f = true ∧ s.enables.getLsbD f.bit = true
      ∧ ∀ g : Flag, g.bit < f.bit → ¬ (s.flagSet g = true ∧ s.enables.getLsbD g.bit = true) := by
  obtain ⟨-, -, hattn⟩ := hs
  obtain ⟨m, hm, hset⟩ := (attention_iff s.flags s.enables).1 (hattn.symm.trans h)
  cases hfind : (List.range 15).find? fun n => (s.flags &&& s.enables).getLsbD n with
  | none => exact absurd hset (List.find?_eq_none.1 hfind m (List.mem_range.2 hm))
  | some n =>
    obtain ⟨hn, hmem, hbelow⟩ := List.find?_range_eq_some.1 hfind
    obtain ⟨f, rfl⟩ := exists_flag_bit (List.mem_range.1 hmem)
    rw [BitVec.getLsbD_and, Bool.and_eq_true] at hn
    refine ⟨f, by rw [State.cause, if_pos h, lowestFlag_eq_find?, hfind]; rfl, hn.1, hn.2, fun g hg hboth => ?_⟩
    have hclear := hbelow g.bit hg
    rw [BitVec.getLsbD_and, Bool.not_eq_true', Bool.and_eq_false_iff] at hclear
    obtain hflag | henable := hclear
    · exact absurd hboth.1 (by simp [State.flagSet, hflag])
    · exact absurd hboth.2 (by simp [henable])

/-- Settles O14: an answered acknowledge returns the cause, with the attention line asserted or not. -/
theorem acknowledgeReturnsTheLowestCause : Obligations.AcknowledgeReturnsTheLowestCause := by
  intro initiator level s hs hc hlevel hl
  refine ⟨s.cause, ?_, cause_of_quiet, cause_of_attn hs.2⟩
  have hanswers : s.answersLevel level = true := by
    rw [State.answersLevel, hl, beq_self_eq_true, Bool.and_true]
    exact bne_iff_ne.2 hlevel
  refine exec_cameraTransfer_of_settled hs hc rfl ?_ hs.2
  rw [route_of_answered rfl hanswers, answer_of_free hc]

/-! ### The take of a word of the control area (R130, R131, R135) -/

/-- A PLAIN write with no unwritten copy to wait for is handed to the forward class. -/
theorem forward_of_isPlainWrite {t : Transfer} {s : State} (h : t.isPlainWrite = true) (hcopies : s.copiesNoted t = []) :
    s.forward t = { s with current := some { transfer := t, stage := .forwarding } } := by
  have hunlocked : t.isLockedRead = false := by
    cases hop : t.op <;> simp_all [Transfer.isLockedRead, Transfer.isPlainWrite]
  simp [State.forward, hcopies, State.handOn, hunlocked]

section
variable {s : State} {offset : Nat}

/-- The control area lies below the end of the address space (R156). -/
theorem start_controlWrite (h : offset < 32) (initiator : BitVec 3) (w : BitVec 32) :
    (s.controlWrite initiator offset w).start = s.controlBase + offset := by
  have hbase := s.base.isLt
  simp only [Transfer.start, State.controlWrite, State.controlBase, Config.controlAreaStep, BitVec.toNat_ofNat]
  omega

theorem aligned_controlWrite (h : offset < 32) (h4 : offset % 4 = 0) (initiator : BitVec 3) (w : BitVec 32) :
    (s.controlWrite initiator offset w).aligned = true := by
  have hstart : (s.controlWrite initiator offset w).addr.toNat = s.controlBase + offset := start_controlWrite h initiator w
  have hbase : s.controlBase % 4 = 0 := by
    simp only [State.controlBase, Config.controlAreaStep]
    omega
  change (_ % 4 == 0) = true
  rw [hstart, beq_iff_eq]
  omega

theorem inControlLine_controlWrite (h : offset + 4 ≤ 32) (initiator : BitVec 3) (w : BitVec 32) :
    s.inControlLine (s.controlWrite initiator offset w) = true := by
  have hstart : (s.controlWrite initiator offset w).start = s.controlBase + offset :=
    start_controlWrite (by omega) initiator w
  have hlen : (s.controlWrite initiator offset w).len = 4 := rfl
  rw [State.inControlLine, Transfer.touches, overlaps_iff, hstart, hlen]
  exact ⟨s.controlBase + offset, by omega⟩

/-- The take of a word written to the command-word line. -/
theorem exec_controlWrite {initiator : BitVec 3} {w : BitVec 32} (h : offset + 4 ≤ 32) (h4 : offset % 4 = 0)
    (hs : s.Running) (hfree : s.PortFree) (hclear : s.ControlLineClear (s.controlWrite initiator offset w)) :
    exec (.cameraTransfer (s.controlWrite initiator offset w)) s
      = .next (s.routeControl (s.controlWrite initiator offset w)).settleRequests := by
  obtain ⟨hcurrent, hlock⟩ := hfree
  obtain ⟨hwindow, hcell, houtput, -⟩ := hclear
  have hline : s.inControlLine (s.controlWrite initiator offset w) = true := inControlLine_controlWrite h initiator w
  have hroute : s.route (s.controlWrite initiator offset w) = s.routeAddress (s.controlWrite initiator offset w) := by
    rw [route_of_unanswered (fun level hop => by simp [State.controlWrite] at hop), State.routeUnanswered, hlock]
    rfl
  have haddress : s.routeAddress (s.controlWrite initiator offset w)
      = s.routeControl (s.controlWrite initiator offset w) := by
    simp only [State.routeAddress, hwindow, hcell, houtput, hline, if_true]
  rw [exec_cameraTransfer_taken hs hcurrent (aligned_controlWrite (by omega) h4 initiator w), hroute, haddress]

theorem dataWord_controlWrite (initiator : BitVec 3) (w : BitVec 32) :
    dataWord (s.controlWrite initiator offset w).data = w :=
  BitVec.setWidth_setWidth_of_le w (by decide)

/-- A write of the command word is forwarded and handed to the engine (R157). -/
theorem routeControl_commandWord {initiator : BitVec 3} {w : BitVec 32}
    (hcopies : s.copiesNoted (s.controlWrite initiator 0 w) = []) :
    s.routeControl (s.controlWrite initiator 0 w)
      = State.captureCommand w
        { s with current := some { transfer := s.controlWrite initiator 0 w, stage := .forwarding } } := by
  have hstart : (s.controlWrite initiator 0 w).start = s.controlBase + 0 := start_controlWrite (by omega) initiator w
  rw [State.routeControl, if_neg (by rintro ⟨-, hsize⟩; cases hsize), if_pos ⟨rfl, rfl, hstart⟩, dataWord_controlWrite,
    forward_of_isPlainWrite rfl hcopies]

/-- A write of the acknowledge word is forwarded and handed to the report unit (R168). -/
theorem routeControl_ackWord {initiator : BitVec 3} {w : BitVec 32}
    (hcopies : s.copiesNoted (s.controlWrite initiator 4 w) = []) :
    s.routeControl (s.controlWrite initiator 4 w)
      = State.acknowledge w
        { s with current := some { transfer := s.controlWrite initiator 4 w, stage := .forwarding } } := by
  have hstart : (s.controlWrite initiator 4 w).start = s.controlBase + 4 := start_controlWrite (by omega) initiator w
  have hother : (s.controlWrite initiator 4 w).start ≠ s.controlBase + commandWordOffset := by
    rw [hstart, commandWordOffset]
    omega
  rw [State.routeControl, if_neg (by rintro ⟨-, hsize⟩; cases hsize), if_neg (fun ⟨_, _, h⟩ => hother h),
    if_pos ⟨rfl, rfl, hstart⟩, dataWord_controlWrite, forward_of_isPlainWrite rfl hcopies]

end

/-! ### The acknowledge word (R125, R168) -/

/-- Both rows of the acknowledge word are the take of its write. -/
theorem exec_ackWrite (initiator : BitVec 3) (counters : Bool) (select : BitVec 31) (s : State) :
    exec (if counters then .ackClearCounters initiator select else .ackClearFlags initiator select) s
      = exec (.cameraTransfer (s.controlWrite initiator 4 (ackWord counters select))) s := by
  cases counters
  case false =>
    change execAckClearFlags initiator select s = execCameraTransfer _ s
    simp only [execAckClearFlags, execCameraTransfer, act, ackWordOffset]
  case true =>
    change execAckClearCounters initiator select s = execCameraTransfer _ s
    simp only [execAckClearCounters, execCameraTransfer, act, ackWordOffset]

/-- Flags cleared: the attention line follows, and a selected flag that was set requests a rewrite. -/
theorem clearFlags_eq (select : BitVec 15) {s : State} (h : s.attn = attention s.flags s.enables) :
    s.clearFlags select = { s with
      flags := s.flags &&& ~~~select, attn := attention (s.flags &&& ~~~select) s.enables
      requested := s.requested || s.flags &&& select != 0 } := by
  rw [State.clearFlags]
  by_cases hnone : s.flags &&& select = 0#15
  · have hkeep : s.flags &&& ~~~select = s.flags := by
      refine BitVec.eq_of_getLsbD_eq fun n hn => ?_
      have hbit := congrArg (·.getLsbD n) hnone
      simp only [BitVec.getLsbD_and, BitVec.getLsbD_zero, BitVec.getLsbD_not] at hbit ⊢
      cases hflag : s.flags.getLsbD n <;> simp_all
    have hquiet : (s.flags &&& select != 0) = false := by rw [hnone]; rfl
    rw [if_pos hnone, hkeep, ← h, hquiet, Bool.or_false]
  · have hchange : (s.flags &&& select != 0) = true := bne_iff_ne.2 hnone
    rw [if_neg hnone, hchange, Bool.or_true]

/-- The registers an acknowledge word leaves: flags cleared with the attention line following, the hits cleared with
WATCH_HIT, the counters cleared with bit 31. -/
def State.acknowledged (counters : Bool) (select : BitVec 31) (s : State) : State :=
  { s with
    flags := s.flags &&& ~~~(select.setWidth 15), attn := attention (s.flags &&& ~~~(select.setWidth 15)) s.enables
    watch := if select.getLsbD 10 then s.clearWatchHits.watch else s.watch
    counters := if counters then Vector.replicate 8 0 else s.counters }

theorem getLsbD_ackWord_lt {n : Nat} (h : n < 31) (counters : Bool) (select : BitVec 31) :
    (ackWord counters select).getLsbD n = select.getLsbD n := by
  rw [ackWord, BitVec.getLsbD_append, if_pos h]

theorem getLsbD_ackWord_top (counters : Bool) (select : BitVec 31) : (ackWord counters select).getLsbD 31 = counters := by
  rw [ackWord, BitVec.getLsbD_append, if_neg (by decide)]
  cases counters <;> rfl

theorem setWidth_ackWord (counters : Bool) (select : BitVec 31) :
    (ackWord counters select).setWidth 15 = select.setWidth 15 := by
  refine BitVec.eq_of_getLsbD_eq fun n hn => ?_
  rw [BitVec.getLsbD_setWidth, BitVec.getLsbD_setWidth, getLsbD_ackWord_lt (by omega)]

/-- The report unit at an acknowledge word: its registers cleared, and a rewrite requested by a flag change and by every
counter clear. -/
theorem acknowledge_ackWord (counters : Bool) (select : BitVec 31) {s : State} (h : s.attn = attention s.flags s.enables) :
    s.acknowledge (ackWord counters select)
      = (s.acknowledged counters select).requestIf (counters || s.flags &&& select.setWidth 15 != 0) := by
  have hhits : (if select.getLsbD 10 then s.clearWatchHits else s)
      = { s with watch := if select.getLsbD 10 then s.clearWatchHits.watch else s.watch } := by
    split <;> rfl
  have hbit : (ackWord counters select).getLsbD Flag.watchHit.bit = select.getLsbD 10 :=
    getLsbD_ackWord_lt (by decide) counters select
  rw [State.acknowledge, hbit, getLsbD_ackWord_top, setWidth_ackWord, hhits, clearFlags_eq _ (by exact h)]
  cases counters with
  | false => rfl
  | true => simp [State.clearCounters, State.acknowledged, State.requestIf]

theorem acknowledged_settled (counters : Bool) (select : BitVec 31) {s : State} (hs : s.Settled) :
    (s.acknowledged counters select).Settled := by
  obtain ⟨hreq, hret, -⟩ := hs
  exact ⟨hreq, hret, rfl⟩

theorem acknowledged_counter (counters : Bool) (select : BitVec 31) (s : State) (c : Counter) :
    (s.acknowledged counters select).counter c = if counters then 0 else s.counter c := by
  cases counters <;> simp [State.counter, State.acknowledged]

theorem acknowledged_watch (counters : Bool) (select : BitVec 31) (s : State) (i : Fin 4) :
    (s.acknowledged counters select).watch[i] = if select.getLsbD 10 then s.watch[i].clearHits else s.watch[i] := by
  simp only [State.acknowledged]
  split
  · simp [State.clearWatchHits]
  · rfl

/-- A request under a condition, as the step's end takes it. -/
theorem requestIf_settled (wanted : Bool) {v : State} (hv : v.Settled) :
    let u := (v.requestIf wanted).settleRequests
    u = { v with rewrite := u.rewrite, rewriteCount := u.rewriteCount, mark := u.mark } ∧ RewriteAfter wanted v u := by
  cases wanted with
  | true =>
    rw [requestIf_true]
    exact request_settled hv
  | false =>
    obtain ⟨hreq, hret, -⟩ := hv
    rw [requestIf_false, settleRequests_of_quiet hreq hret]
    exact ⟨rfl, hreq, hret, rfl⟩

/-- Settles O15: the take of the acknowledge word, with bit 31 or without. -/
theorem acknowledgeWordClearsFlagsAndCounters : Obligations.AcknowledgeWordClearsFlagsAndCounters := by
  intro initiator select counters s t command hs hfree hclear
  set p : State := { s with current := some { transfer := t, stage := .forwarding } }
  have hexec : exec command s = .next (p.acknowledge (ackWord counters select)).settleRequests := by
    have ⟨_, _, _, hcopies⟩ := hclear
    rw [exec_ackWrite, exec_controlWrite (by omega) rfl hs hfree hclear, routeControl_ackWord hcopies]
  have hsettled : p.Settled := hs.2
  have ⟨_, _, hattn⟩ := hsettled
  obtain ⟨hu, hrewrite⟩ := requestIf_settled (counters || p.flags &&& select.setWidth 15 != 0)
    (acknowledged_settled counters select hsettled)
  rw [acknowledge_ackWord counters select hattn] at hexec
  refine ⟨_, hexec, ?_, ?_, fun c => ?_, fun i => ?_, hrewrite⟩
  · simp only [settleRequests_attn, settleRequests_watch, settleRequests_counters]
    exact hu
  · simp only [settleRequests_attn, settleRequests_flags]
    rfl
  · rw [State.counter, settleRequests_counters]
    exact acknowledged_counter counters select p c
  · rw [settleRequests_watch]
    exact acknowledged_watch counters select p i

/-! ### A command word in EXECUTING (R159) -/

theorem captureCommand_of_executing {s : State} {c : CurrentCommand} {phase : Phase} (h : s.engine = .executing c phase)
    (w : BitVec 32) : s.captureCommand w = s.refuseBusy := by
  simp only [State.captureCommand, h]

/-- A refusal busy signals its flag and its counter. -/
theorem signals_refuseBusy {v : State} (hv : v.Settled) :
    Signals (v.someClear [.commandRefusedBusy]) [.commandRefusedBusy] [.busyRefusals] v v.refuseBusy := by
  simpa [State.someClear, State.refuseBusy] using ((signals_nothing hv).setFlag .commandRefusedBusy).bump .busyRefusals

/-- Settles O41: whatever the code, the word is refused as the engine is EXECUTING. -/
theorem commandWordIsRefusedBusy : Obligations.CommandWordIsRefusedBusy := by
  intro initiator code tag arg c phase s t hs hfree hclear heng
  set p : State := { s with current := some { transfer := t, stage := .forwarding } }
  have hexec : exec (.cameraTransfer t) s = .next p.refuseBusy.settleRequests := by
    have ⟨_, _, _, hcopies⟩ := hclear
    rw [exec_controlWrite (by omega) rfl hs hfree hclear, routeControl_commandWord hcopies,
      captureCommand_of_executing (by exact heng)]
  have hsettled : p.Settled := hs.2
  have ⟨hreq, hret, _⟩ := hsettled
  exact ⟨_, hexec, (signals_refuseBusy hsettled).settled hreq hret⟩

end Sys2Proof.Machine
end

section
/-! The report unit: the terminations of a status write (R172 to R174), and the commands SET_ENABLES and REPORT (R162,
R163). Settles O35 and O49. -/

namespace Sys2Proof.Machine

/-! ### The terminations of a status write (R172 to R174) -/

/-- The end of a rewrite makes no request of its own. -/
theorem endRewrite_settled {s : State} (hs : s.Settled) : s.endRewrite.Settled := by
  rw [State.endRewrite]
  split <;> exact hs

/-- The step of a status write's termination. -/
theorem exec_statusWriteDone (result : Termination) (s : State) :
    exec (.statusWriteDone result) s = execStatusWriteDone result s := rfl

section
variable {s : State} {f : InFlight}

theorem statusWrite_letGo (result : Termination) (hs : s.Running)
    (hf : s.findInFlight (fun x => x.owner == .status) = some f) (hlive : f.live = false) :
    exec (.statusWriteDone result) s = .next (s.land fun x => x.owner == .status) := by
  rw [exec_statusWriteDone, execStatusWriteDone, act_of_released hs.1]
  simp only [hf, hlive]
  exact next_settleRequests hs.2

/-- The two terminations of a write of the rewrite in progress. -/
theorem statusWrite_terminated {n : Nat} (hs : s.Running)
    (hf : s.findInFlight (fun x => x.owner == .status) = some f) (hlive : f.live = true) (hn : s.rewrite = some n) :
    let v := s.land fun x => x.owner == .status
    (∀ d, exec (.statusWriteDone (.done d)) s
        = .next (if trailingCopy ≤ n then v.endRewrite else { v with rewrite := some (n + 1) }).settleRequests)
      ∧ exec (.statusWriteDone .fault) s
        = .next ((v.endRewrite.setFlag .reportFault).bump .memoryFaults).settleRequests := by
  refine ⟨fun d => ?_, ?_⟩ <;>
  · rw [exec_statusWriteDone, execStatusWriteDone, act_of_released hs.1]
    simp only [hf, hlive, land_rewrite, hn]

end

/-- A report fault signals its flag and a memory fault counted (R174). -/
theorem signals_reportFault {v : State} (hv : v.Settled) :
    Signals (v.someClear [.reportFault]) [.reportFault] [.memoryFaults] v
      ((v.setFlag .reportFault).bump .memoryFaults) := by
  simpa [State.someClear] using ((signals_nothing hv).setFlag .reportFault).bump .memoryFaults

/-- Settles O35: a write let go, a write before the trailing copy, the trailing copy, and a write that faults. -/
theorem statusWriteTermination : Obligations.StatusWriteTermination := by
  intro f s hs hf v ended
  have hended : ended = (s.land fun x => x.owner == .status).endRewrite := rfl
  have hv : v.Settled := hs.2
  refine ⟨fun hlive result => statusWrite_letGo result hs hf hlive, fun n hlive hn => ?_⟩
  obtain ⟨hdone, hfault⟩ := statusWrite_terminated hs hf hlive hn
  have hsettled : ended.Settled := endRewrite_settled hv
  rw [← hended] at hfault
  refine ⟨fun d hlt => ?_, fun d hge => ?_, _, hfault, ?_⟩
  · rw [hdone, if_neg (show ¬ trailingCopy ≤ n from hlt.not_ge)]
    exact next_settleRequests hv
  · rw [hdone, if_pos (show trailingCopy ≤ n from hge)]
    exact next_settleRequests hsettled
  · have ⟨hreq, hret, _⟩ := hsettled
    obtain ⟨hu, hflags, hcounters, hrewrite⟩ := (signals_reportFault hsettled).settled hreq hret
    have hkept : ended.flags = s.flags := endRewrite_flags v
    have hcounted : ended.counters = s.counters := endRewrite_counters v
    refine ⟨hu, ?_, ?_, ?_⟩
    · simpa only [FlagsSet, hkept] using hflags
    · simpa only [CountersRaised, State.counter, hcounted] using hcounters
    · simpa only [State.someClear, State.flagSet, hkept] using hrewrite

/-! ### SET_ENABLES and REPORT (R162, R163) -/

theorem replaceEnables_settled (mask : BitVec 15) {s : State} (hs : s.Settled) : (s.replaceEnables mask).Settled := by
  obtain ⟨hreq, hret, -⟩ := hs
  exact ⟨hreq, hret, rfl⟩

/-- Settles O49: each command at the second read of its parameters. -/
theorem setEnablesAndReport : Obligations.SetEnablesAndReport := by
  intro c first second s hs ha v mask
  have hv : v.Settled := commandLanded_settled hs.2
  refine ⟨fun hc => ?_, fun hc => ?_⟩
  · have hhand : v.handOver c (block first second) = (v.replaceEnables mask).finish c .ok mask.toNat := by
      rw [State.handOver, hc, State.runSetEnables]
    exact command_ends hs ha (by rw [hc]; rfl) (replaceEnables_settled mask hv) hhand
  · have hhand : v.handOver c (block first second) = v.finish c .ok 0 := by
      rw [State.handOver, hc]
    exact command_ends hs ha (by rw [hc]; rfl) hv hhand

end Sys2Proof.Machine
end

section
/-! What an operation on the exposures can change at all (R21 to R41): every operation of the exposure queue and of the
progress unit is a move of the exposures, so that one frame serves them all. A move keeps the attention line with the
flags, the capacities of the two lists, and the reference counts of the stacks with the queue (R22, R32, R100, R167). -/

namespace Sys2Proof.Machine

/-! ### The fields the invariants of a part speak of -/

/-- The attention line follows the flags and the enables (R167). -/
def State.Attends (s : State) : Prop := s.attn = attention s.flags s.enables

theorem setFlag_attends (f : Flag) {s : State} (h : s.Attends) : (s.setFlag f).Attends := by
  rw [setFlag_eq f s h]
  rfl

theorem stack_setStack (j k : StackSlot) (r : StackRecord) (s : State) :
    (s.setStack j r).stack k = if k = j then r else s.stack k := by
  cases j <;> cases k <;> rfl

/-- The reference counts and the sweep depend on the queue's stack slots, the two stacks and the slot of the row in work
alone. -/
theorem referencesAgree_congr {s u : State} (hq : u.queue.map (·.stackSlot) = s.queue.map (·.stackSlot))
    (hstack : ∀ k, u.stack k = s.stack k) (hsweep : ∀ w, u.sweep = some w → ∃ v, s.sweep = some v ∧ v.slot = w.slot)
    (h : s.ReferencesAgree) : u.ReferencesAgree := by
  obtain ⟨hcount, hopen, hwork⟩ := h
  have hcountMap (l : List Exposure) (k : StackSlot) :
      (l.filter fun e => e.stackSlot = k).length = (l.map (·.stackSlot)).count k := by
    rw [List.count_eq_countP, List.countP_map, List.countP_eq_length_filter]
    rfl
  refine ⟨fun k => ?_, fun k hk => ?_, fun w hw => ?_⟩
  · rw [hcountMap, hq, ← hcountMap, hstack, hcount]
  · rw [hstack] at hk ⊢
    exact hopen k hk
  · obtain ⟨v, hv, hslot⟩ := hsweep w hw
    rw [hstack, ← hslot]
    exact hwork v hv

/-! ### Moves of the exposures -/

/-- The exposures have moved from `s` to `u`: the queue, the retired list, the progress records, the stacks' reference
counts and what a step signals may differ, and nothing else. -/
structure ExposuresMove (s u : State) : Prop where
  frame : u = { s with
    queue := u.queue, retired := u.retired, progress := u.progress, stack0 := u.stack0, stack1 := u.stack1
    flags := u.flags, attn := u.attn, counters := u.counters, requested := u.requested, retirements := u.retirements }
  records : ∀ k, u.stack k = { s.stack k with refCount := (u.stack k).refCount }
  attends : s.Attends → u.Attends
  queueLength : u.queue.length ≤ s.queue.length
  retiredLength : s.retired.length ≤ Config.retiredCapacity → u.retired.length ≤ Config.retiredCapacity
  references : s.ReferencesAgree → u.ReferencesAgree

theorem ExposuresMove.refl (s : State) : ExposuresMove s s :=
  ⟨rfl, fun _ => rfl, id, le_rfl, id, id⟩

theorem ExposuresMove.trans {s u w : State} (h : ExposuresMove s u) (g : ExposuresMove u w) : ExposuresMove s w where
  frame := g.frame.trans (by rw [h.frame])
  records k := (g.records k).trans (by rw [h.records k])
  attends := g.attends ∘ h.attends
  queueLength := g.queueLength.trans h.queueLength
  retiredLength := g.retiredLength ∘ h.retiredLength
  references := g.references ∘ h.references

theorem updateExposure_moves {f : Exposure → Exposure} (hf : ∀ e, (f e).stackSlot = e.stackSlot) (id : Nat) (s : State) :
    ExposuresMove s (s.updateExposure id f) where
  frame := rfl
  records _ := rfl
  attends h := h
  queueLength := by simp [State.updateExposure]
  retiredLength h := h
  references := by
    refine referencesAgree_congr ?_ (fun _ => rfl) fun w hw => ⟨w, hw, rfl⟩
    simp only [State.updateExposure, List.map_map]
    refine List.map_congr_left fun e _ => ?_
    by_cases he : e.id = id <;> simp [he, hf]

theorem request_moves (s : State) : ExposuresMove s s.request :=
  ⟨rfl, fun _ => rfl, id, le_rfl, id, id⟩

theorem bump_moves (c : Counter) (s : State) : ExposuresMove s (s.bump c) :=
  ⟨rfl, fun _ => rfl, id, le_rfl, id, id⟩

theorem setFlag_moves (f : Flag) (s : State) : ExposuresMove s (s.setFlag f) := by
  have hattends := setFlag_attends f (s := s)
  unfold State.setFlag at hattends ⊢
  split
  · exact ExposuresMove.refl s
  · next hclear => exact ⟨rfl, fun _ => rfl, by simpa only [if_neg hclear] using hattends, le_rfl, id, id⟩

theorem setProgress_moves (i : SegIdx) (p : Progress) (s : State) : ExposuresMove s (s.setProgress i p) :=
  ⟨rfl, fun _ => rfl, id, le_rfl, id, id⟩

theorem moveAllFrom_moves (id : Nat) (s : State) : ExposuresMove s (s.moveAllFrom id) := by
  unfold State.moveAllFrom
  generalize Vector.ofFn _ = progress
  exact ⟨rfl, fun _ => rfl, fun h => h, le_rfl, fun h => h, fun h => h⟩

/-! ### Retirement (R31, R32) -/

theorem stack_dropReference (j k : StackSlot) (s : State) :
    (s.dropReference j).stack k
      = if k = j then { s.stack k with refCount := (s.stack k).refCount - 1 } else s.stack k := by
  rw [State.dropReference, stack_setStack]
  split
  · next h => rw [h]
  · rfl

theorem stack_withQueue (q : List Exposure) (k : StackSlot) (s : State) :
    State.stack { s with queue := q } k = s.stack k := by
  cases k <;> rfl

/-- The head of the queue leaves: its stack's reference count falls with it (R31, R100). -/
theorem dropReference_references {e : Exposure} {rest : List Exposure} {s : State}
    (h : State.ReferencesAgree { s with queue := e :: rest }) :
    State.ReferencesAgree { s.dropReference e.stackSlot with queue := rest } := by
  obtain ⟨hcount, hopen, hwork⟩ := h
  simp only [stack_withQueue] at hcount hopen hwork
  refine ⟨fun k => ?_, fun k hk => ?_, fun w hw => ?_⟩
  · have h := hcount k
    rw [stack_withQueue, stack_dropReference]
    by_cases hk : e.stackSlot = k
    · simp_all
    · simpa [hk, Ne.symm hk] using h
  · rw [stack_withQueue, stack_dropReference] at hk ⊢
    split at hk <;> [rw [if_pos (by assumption)]; rw [if_neg (by assumption)]]
    · exact hopen k (Nat.lt_of_lt_of_le hk (Nat.sub_le _ _))
    · exact hopen k hk
  · have h := hwork w (by simpa [State.dropReference] using hw)
    rw [stack_withQueue, stack_dropReference]
    split <;> exact h

theorem dropReference_moves (e : Exposure) (rest : List Exposure) (s : State) :
    ExposuresMove { s with queue := e :: rest } { s.dropReference e.stackSlot with queue := rest } where
  frame := by cases e.stackSlot <;> rfl
  records k := by
    simp only [stack_withQueue, stack_dropReference]
    split <;> rfl
  attends h := by
    rw [State.Attends] at h ⊢
    simpa [State.dropReference] using h
  queueLength := by simp
  retiredLength h := by simpa [State.dropReference] using h
  references := dropReference_references

/-- One retirement, the record leaving the queue with it (R31). -/
theorem retireOne_moves (e : Exposure) (rest : List Exposure) (s : State) :
    ExposuresMove { s with queue := e :: rest } { s.retireOne e with queue := rest } := by
  have hlist : ExposuresMove { s with queue := e :: rest } { s with
      queue := e :: rest, retired := (retiredOf e :: s.retired).take Config.retiredCapacity
      retirements := s.retirements + 1 } :=
    ⟨rfl, fun _ => rfl, id, le_rfl, fun _ => List.length_take_le _ _, id⟩
  refine hlist.trans ((dropReference_moves e rest { s with
      retired := (retiredOf e :: s.retired).take Config.retiredCapacity, retirements := s.retirements + 1 }).trans
    ((setFlag_moves (retirementFlag e) _).trans ?_))
  have hq (v : State) (f : Flag) : ({ v with queue := rest }.setFlag f) = { v.setFlag f with queue := rest } := by
    unfold State.setFlag
    by_cases h : v.flagSet f = true
    · rw [if_pos h, if_pos (by exact h)]
    · rw [if_neg h, if_neg (by exact h)]
  rw [hq]
  exact request_moves _

theorem retireAlong_moves (q : List Exposure) (s : State) : ExposuresMove { s with queue := q } (State.retireAlong q s) := by
  induction q generalizing s with
  | nil => exact ExposuresMove.refl _
  | cons e rest ih =>
    rw [State.retireAlong]
    split
    · exact (retireOne_moves e rest s).trans (ih (s.retireOne e))
    · exact ExposuresMove.refl _

theorem retireHeads_moves (s : State) : ExposuresMove s s.retireHeads := retireAlong_moves s.queue s

/-! ### The tests and the ends of segments (R25, R26, R40) -/

theorem testDone_moves (id : Nat) (s : State) : ExposuresMove s (s.testDone id) := by
  rcases testDone_cases id s with h | ⟨-, h⟩ <;> rw [h]
  · exact ExposuresMove.refl s
  · exact (updateExposure_moves (f := Exposure.toDone) (fun _ => rfl) id s).trans
      ((request_moves _).trans (retireHeads_moves _))

theorem testDraining_moves (id : Nat) (s : State) : ExposuresMove s (s.testDraining id) := by
  unfold State.testDraining
  split
  · exact ExposuresMove.refl s
  · split
    · exact (updateExposure_moves (f := Exposure.toDraining) (fun _ => rfl) id s).trans
        ((request_moves _).trans (testDone_moves id _))
    · exact ExposuresMove.refl s

theorem endSegments_moves (id : Nat) (m : BitVec 128) (reason : Option CutReason) (s : State) :
    ExposuresMove s (s.endSegments id m reason) :=
  (updateExposure_moves (f := Exposure.join m reason) (fun _ => rfl) id s).trans (testDraining_moves id _)

theorem cutExposure_moves (id : Nat) (reason : CutReason) (s : State) : ExposuresMove s (s.cutExposure id reason) := by
  unfold State.cutExposure
  split
  · exact ExposuresMove.refl s
  · next e _ =>
    exact (updateExposure_moves (f := Exposure.join e.segSet (some reason)) (fun _ => rfl) id s).trans
      ((moveAllFrom_moves id _).trans (testDraining_moves id _))

theorem report_stackSlot (f : Fate) (e : Exposure) : (e.report f).stackSlot = e.stackSlot := by
  unfold Exposure.report
  split <;> rfl

theorem reportFate_moves (id : Nat) (f : Fate) (s : State) : ExposuresMove s (s.reportFate id f) :=
  updateExposure_moves (report_stackSlot f) id s

theorem testAll_moves (ids : List Nat) (s : State) : ExposuresMove s (s.testAll ids) := by
  induction ids generalizing s with
  | nil => exact ExposuresMove.refl s
  | cons id rest ih => exact (testDone_moves id s).trans (ih _)

/-! ### The progress unit at a pixel (R34 to R41, R50 to R52) -/

theorem moveToNext_moves (i : SegIdx) (s : State) : ExposuresMove s (s.moveToNext i) := setProgress_moves i _ s

theorem orphan_moves (s : State) : ExposuresMove s s.orphan := (setFlag_moves _ s).trans (bump_moves _ _)

theorem takeOne_stackSlot (cls : PixelClass) (e : Exposure) : (e.takeOne cls).stackSlot = e.stackSlot := by
  unfold Exposure.takeOne
  cases cls <;> dsimp only <;> split <;> rfl

theorem takePixel_moves (i : SegIdx) (id : Nat) (cls : PixelClass) (s : State) :
    ExposuresMove s (s.takePixel i id cls) := by
  have hbegin : ExposuresMove s (s.beginReading id) := by
    unfold State.beginReading
    split
    · exact ExposuresMove.refl s
    · split
      · exact (updateExposure_moves (f := fun e => { e with state := .reading }) (fun _ => rfl) id s).trans
          (request_moves _)
      · exact ExposuresMove.refl s
  have hcount : ExposuresMove s (((s.beginReading id).updateExposure id (Exposure.takeOne cls)).countPosition i) :=
    hbegin.trans ((updateExposure_moves (takeOne_stackSlot cls) id _).trans (setProgress_moves i _ _))
  unfold State.takePixel
  dsimp only
  split
  · exact hcount.trans ((endSegments_moves id _ none _).trans (moveToNext_moves i _))
  · exact hcount

theorem startFrame_moves (i : SegIdx) (id : Nat) (s : State) : ExposuresMove s (s.startFrame i id) := setProgress_moves i _ s

theorem shortFrame_moves (i : SegIdx) (id : Nat) (s : State) : ExposuresMove s (s.shortFrame i id) :=
  (endSegments_moves id _ _ s).trans ((bump_moves _ _).trans (moveToNext_moves i _))

theorem offerFirst_moves (i : SegIdx) (cls : PixelClass) (s : State) : ExposuresMove s (s.offerFirst i cls).1 := by
  unfold State.offerFirst
  split
  · exact (startFrame_moves i _ s).trans (takePixel_moves i _ cls _)
  · exact orphan_moves s

theorem offer_moves (i : SegIdx) (p : Nat) (cls : PixelClass) (s : State) : ExposuresMove s (s.offer i p cls).1 := by
  unfold State.offer
  split
  · exact orphan_moves s
  · split
    · exact offerFirst_moves i cls s
    · exact orphan_moves s
  · split
    · exact (shortFrame_moves i _ s).trans (offerFirst_moves i cls _)
    · exact takePixel_moves i _ cls s

theorem loseRow_moves (s : State) : ExposuresMove s s.loseRow := (setFlag_moves _ s).trans (bump_moves _ _)

theorem gather_moves (i : SegIdx) (row raw : Nat) (s : State) : ExposuresMove s (s.gather i row raw) := by
  unfold State.gather
  split
  · exact setProgress_moves i _ s
  · split
    · exact setProgress_moves i _ s
    · exact (loseRow_moves s).trans (setProgress_moves i _ _)

theorem visitPixel_moves (i : SegIdx) (p raw : Nat) (s : State) : ExposuresMove s (s.visitPixel i p raw).1 := by
  unfold State.visitPixel
  split
  · exact orphan_moves s
  · exact (offer_moves i p _ s).trans (gather_moves i _ raw _)
  · exact offer_moves i p _ s

theorem visitPixels_moves (i : SegIdx) (l : List (Nat × Nat)) (s : State) : ExposuresMove s (s.visitPixels i l).1 := by
  induction l generalizing s with
  | nil => exact ExposuresMove.refl s
  | cons px rest ih => exact (visitPixel_moves i px.1 px.2 s).trans (ih _)

end Sys2Proof.Machine
end

section
/-! The ledger of the exposures through the operations of the exposure queue and of the progress unit
(R25, R27, R30, R31, R36 to R40). -/

namespace Sys2Proof.Machine

/-! ### The ledger and the fields it speaks of -/

/-- The ledger depends on the queue, the retired list, the current exposures of the progress records and on whether a plan
is being loaded. -/
theorem ledger_congr {s u : State} (hq : u.queue = s.queue) (hr : u.retired = s.retired)
    (hp : ∀ i : SegIdx, u.progress[i].state.exposure = s.progress[i].state.exposure)
    (he : u.engine.loading = true → s.engine.loading = true ∨ s.queue = []) (h : s.LedgerBalances) :
    u.LedgerBalances := by
  obtain ⟨hnd, horder, hretired, hassigned, hload⟩ := h
  refine ⟨hq ▸ hnd, hq ▸ horder, hr ▸ hretired, fun i => ?_, fun hl => ?_⟩
  · rw [hp, hq, hassigned]
  · rw [hq]
    exact (he hl).elim hload id

/-- A change of one queued exposure that keeps its id, its segments and its order keeps the ledger. -/
theorem updateExposure_ledger {s : State} {id : Nat} {f : Exposure → Exposure}
    (hf : ∀ e, (f e).id = e.id ∧ (f e).segSet = e.segSet ∧ (f e).ended = e.ended)
    (horder : ∀ e ∈ s.queue, e.id = id → e.InOrder → (f e).InOrder) (h : s.LedgerBalances) :
    (s.updateExposure id f).LedgerBalances := by
  obtain ⟨hnd, hin, hretired, hassigned, hload⟩ := h
  refine ⟨?_, fun x hx => ?_, hretired, fun i => ?_, fun hl => ?_⟩
  · rwa [map_id_updateExposure fun e => (hf e).1]
  · obtain ⟨e, he, rfl⟩ := mem_updateExposure hx
    split
    · next hid => exact horder e he hid (hin e he)
    · exact hin e he
  · refine (hassigned i).trans (nextAssignment_map (fun e => ?_) i s.queue).symm
    split
    · exact hf e
    · exact ⟨rfl, rfl, rfl⟩
  · simp [State.updateExposure, hload hl]

theorem request_ledger {s : State} (h : s.LedgerBalances) : s.request.LedgerBalances := h

theorem requestIf_ledger (wanted : Bool) {s : State} (h : s.LedgerBalances) : (s.requestIf wanted).LedgerBalances := h

theorem bump_ledger (c : Counter) {s : State} (h : s.LedgerBalances) : (s.bump c).LedgerBalances := h

theorem setFlag_ledger (f : Flag) {s : State} (h : s.LedgerBalances) : (s.setFlag f).LedgerBalances :=
  ledger_congr (by simp) (by simp) (by simp) (fun hl => .inl (by simpa using hl)) h

/-- A progress record may change in all but its current exposure. -/
theorem setProgress_ledger {s : State} {i : SegIdx} {p : Progress}
    (hp : p.state.exposure = s.progress[i].state.exposure) (h : s.LedgerBalances) : (s.setProgress i p).LedgerBalances := by
  refine ledger_congr (s := s) rfl rfl (fun j => ?_) .inl h
  by_cases hj : j = i
  · subst hj
    rw [progress_setProgress_self, hp]
  · rw [progress_setProgress_of_ne hj]

/-! ### Retirement and the test for DONE (R25, R31) -/

/-- A DONE exposure leaves the head of the queue: it is balanced, and no progress record stands on it. -/
theorem retireOne_ledger {e : Exposure} {rest : List Exposure} {s : State} (hdone : e.state = .done)
    (h : State.LedgerBalances { s with queue := e :: rest }) :
    State.LedgerBalances { s.retireOne e with queue := rest } := by
  obtain ⟨hnd, horder, hretired, hassigned, hload⟩ := h
  obtain ⟨-, hdrained, hout, hbalance⟩ := horder e List.mem_cons_self
  have hended : e.ended = e.segSet := hdrained.mp (.inr hdone)
  refine ⟨(List.nodup_cons.mp hnd).2, fun x hx => horder x (List.mem_cons_of_mem _ hx), fun r hr => ?_, fun i => ?_,
    fun hl => ?_⟩
  · have hmem : r = retiredOf e ∨ r ∈ s.retired := by
      have : r ∈ (retiredOf e :: s.retired).take Config.retiredCapacity := by
        simpa [State.retireOne, State.dropReference] using hr
      simpa using List.mem_of_mem_take this
    rcases hmem with rfl | hmem
    · have := hout hdone
      simp only [retiredOf]
      omega
    · exact hretired r hmem
  · refine (congrArg (fun p : Vector Progress 128 => p[i].state.exposure) (retireOne_progress e s)).trans
      ((hassigned i).trans ?_)
    simp [nextAssignment, hended]
  · have : s.engine.loading = true := by simpa [State.retireOne, State.dropReference] using hl
    cases hload this

theorem retireAlong_ledger {q : List Exposure} {s : State} (h : State.LedgerBalances { s with queue := q }) :
    (State.retireAlong q s).LedgerBalances := by
  induction q generalizing s with
  | nil => exact h
  | cons e rest ih =>
    rw [State.retireAlong]
    split
    · next hdone => exact ih (retireOne_ledger hdone h)
    · exact h

theorem retireHeads_ledger {s : State} (h : s.LedgerBalances) : s.retireHeads.LedgerBalances := retireAlong_ledger h

theorem toDone_inOrder {e : Exposure} (hdrain : e.state = .draining) (hout : e.outstanding = 0) (h : e.InOrder) :
    e.toDone.InOrder := by
  obtain ⟨hsub, hdrained, -, hbalance⟩ := h
  exact ⟨hsub, iff_of_true (.inr rfl) (hdrained.mp (.inl hdrain)), fun _ => hout, hbalance⟩

theorem eq_of_exposure? {s : State} {id : Nat} {e x : Exposure} (hnd : (s.queue.map (·.id)).Nodup)
    (he : s.exposure? id = some e) (hx : x ∈ s.queue) (hid : x.id = id) : x = e := by
  have h := exposure?_of_mem hnd hx
  rw [hid, he] at h
  exact (Option.some.inj h).symm

theorem mem_of_exposure? {s : State} {id : Nat} {e : Exposure} (he : s.exposure? id = some e) :
    e ∈ s.queue ∧ e.id = id :=
  ⟨List.mem_of_find?_eq_some he, by simpa using List.find?_some he⟩

theorem testDone_ledger (id : Nat) {s : State} (h : s.LedgerBalances) : (s.testDone id).LedgerBalances := by
  unfold State.testDone
  split
  · exact h
  · next e he =>
    split
    · next hdrained =>
      refine retireHeads_ledger (request_ledger (updateExposure_ledger (fun _ => ⟨rfl, rfl, rfl⟩) ?_ h))
      intro x hx hid
      obtain rfl := eq_of_exposure? (ledger_nodup h) he hx hid
      exact toDone_inOrder hdrained.1 hdrained.2
    · exact h

theorem testAll_ledger (ids : List Nat) {s : State} (h : s.LedgerBalances) : (s.testAll ids).LedgerBalances := by
  induction ids generalizing s with
  | nil => exact h
  | cons id rest ih => exact ih (testDone_ledger id h)

/-! ### Tally reports (R30) -/

theorem count_decided (t : Tallies) (f : Fate) :
    (t.count f).decided = t.decided + 1 ∧ (t.count f).taken = t.taken := by
  cases f with
  | placed d => cases d <;> simp [Tallies.count, Tallies.decided] <;> omega
  | _ =>
    refine ⟨?_, rfl⟩
    simp only [Tallies.count, Tallies.decided]
    omega

theorem report_fixed (f : Fate) (e : Exposure) :
    (e.report f).id = e.id ∧ (e.report f).segSet = e.segSet ∧ (e.report f).ended = e.ended := by
  unfold Exposure.report
  split <;> exact ⟨rfl, rfl, rfl⟩

theorem report_inOrder (f : Fate) {e : Exposure} (h : e.InOrder) : (e.report f).InOrder := by
  unfold Exposure.report
  split
  · exact h
  · next hpos =>
    obtain ⟨hsub, hdrained, hout, hbalance⟩ := h
    obtain ⟨hdecided, htaken⟩ := count_decided e.tallies f
    refine ⟨hsub, hdrained, fun hdone => absurd (hout hdone) hpos, ?_⟩
    dsimp only
    omega

theorem reportFate_ledger (id : Nat) (f : Fate) {s : State} (h : s.LedgerBalances) : (s.reportFate id f).LedgerBalances :=
  updateExposure_ledger (report_fixed f) (fun _ _ _ => report_inOrder f) h

/-! ### A pixel taken, and a segment that ends its exposure (R36 to R39) -/

theorem withPixel_inOrder (cls : PixelClass) {e : Exposure} (hopen : e.state = .queued ∨ e.state = .reading)
    (h : e.InOrder) : (e.withPixel cls).InOrder := by
  obtain ⟨hsub, hdrained, -, hbalance⟩ := h
  have hne : e.ended ≠ e.segSet := fun heq => by
    rcases hopen with h | h <;> rcases hdrained.mpr heq with h' | h' <;> rw [h] at h' <;> cases h'
  have hstate : (e.withPixel cls).state = .reading := by
    rcases hopen with h | h <;> simp [h]
  refine ⟨hsub, iff_of_false (by rw [hstate]; simp) hne, fun h => ?_, ?_⟩
  · rw [hstate] at h
    cases h
  · simp only [Tallies.decided] at hbalance ⊢
    omega

/-- A pixel counted for the current exposure of a progress record. -/
theorem withTaken_ledger {s : State} {i : SegIdx} {id : Nat} (cls : PixelClass)
    (hcur : s.progress[i].state.exposure = some id) (h : s.LedgerBalances) : (s.withTaken id cls).LedgerBalances := by
  obtain ⟨e, he, rfl, hopen⟩ := ledger_current h hcur
  refine requestIf_ledger _ (updateExposure_ledger (fun _ => ⟨rfl, rfl, rfl⟩) (fun x hx hid => ?_) h)
  obtain rfl := eq_of_exposure? (ledger_nodup h) (exposure?_of_mem (ledger_nodup h) he) hx hid
  exact withPixel_inOrder cls hopen

theorem getLsbD_or_segMask_of_ne {i j : SegIdx} (h : j ≠ i) (m : BitVec 128) :
    (m ||| segMask i).getLsbD j.1 = m.getLsbD j.1 := by
  have : j.1 ≠ i.1 := fun heq => h (Fin.ext heq)
  simp only [segMask, BitVec.getLsbD_or, BitVec.getLsbD_shiftLeft]
  simp only [BitVec.getLsbD_one]
  simp
  omega

theorem endedBy_inOrder {i : SegIdx} {e : Exposure} (reason : Option CutReason) (hset : e.segSet.getLsbD i.1 = true)
    (hopen : e.state = .queued ∨ e.state = .reading) (h : e.InOrder) : (e.endedBy i reason).InOrder := by
  obtain ⟨hsub, -, -, hbalance⟩ := h
  have hjoined : (e.ended ||| segMask i) &&& e.segSet = e.ended ||| segMask i := by
    ext n hn
    have hbit := congrArg (fun m : BitVec 128 => m.getLsbD n) hsub
    by_cases hi : n = i.1
    · have h1 := getLsbD_or_segMask e.ended i
      subst hi
      simp only [← BitVec.getLsbD_eq_getElem, BitVec.getLsbD_and, h1, hset, Bool.and_self]
    · have h1 := getLsbD_or_segMask_of_ne (i := i) (j := ⟨n, hn⟩) (fun heq => hi (congrArg Fin.val heq)) e.ended
      simp only [← BitVec.getLsbD_eq_getElem, BitVec.getLsbD_and] at h1 hbit ⊢
      rw [h1, hbit]
  unfold Exposure.endedBy
  dsimp only
  split
  · next hall =>
    refine ⟨by simp [hall], iff_of_true (.inl rfl) hall, fun h => ?_, hbalance⟩
    cases h
  · next hsome =>
    refine ⟨hjoined, iff_of_false ?_ hsome, fun h => ?_, hbalance⟩
    · rcases hopen with h | h <;> simp [h]
    · rcases hopen with h' | h' <;> simp [h'] at h

theorem movedTo_exposure (next : Option Nat) (p : Progress) : (p.movedTo next).state.exposure = next := by
  cases next <;> rfl

/-- A segment has ended its exposure, and its progress record stands at its next assignment (R39). -/
theorem withEnded_ledger {s : State} {i : SegIdx} {id : Nat} (reason : Option CutReason) (p : Progress)
    (hcur : s.progress[i].state.exposure = some id) (h : s.LedgerBalances) :
    ((s.withEnded id i reason).setProgress i
      (p.movedTo (nextAssignment i (s.withEnded id i reason).queue))).LedgerBalances := by
  have hnext : nextAssignment i s.queue = some id := by
    obtain ⟨-, -, -, hassigned, -⟩ := h
    rw [← hassigned, hcur]
  obtain ⟨e, he, rfl, hopen⟩ := ledger_current h hcur
  have hnd := ledger_nodup h
  have hset : e.segSet.getLsbD i.1 = true := by
    obtain ⟨x, hx, hid, hset, -⟩ := nextAssignment_eq_some hnext
    rwa [eq_of_exposure? hnd (exposure?_of_mem hnd he) hx hid] at hset
  obtain ⟨-, horder, hretired, hassigned, hload⟩ := h
  refine ⟨?_, fun x hx => ?_, hretired, fun j => ?_, fun hl => ?_⟩
  · exact (map_id_withEnded e.id i reason s).symm ▸ hnd
  · obtain ⟨y, hy, rfl⟩ := mem_updateExposure (f := Exposure.endedBy i reason) hx
    split
    · next hid =>
      obtain rfl := eq_of_exposure? hnd (exposure?_of_mem hnd he) hy hid
      exact endedBy_inOrder reason hset hopen (horder y hy)
    · exact horder y hy
  · by_cases hj : j = i
    · subst hj
      rw [progress_setProgress_self]
      exact movedTo_exposure _ p
    · rw [progress_setProgress_of_ne hj]
      refine (hassigned j).trans ?_
      show nextAssignment j s.queue = nextAssignment j (s.queue.map fun x => if x.id = e.id then x.endedBy i reason else x)
      simp only [nextAssignment, List.find?_map, Option.map_map]
      have hid : (fun x : Exposure => x.id) ∘ (fun x => if x.id = e.id then x.endedBy i reason else x)
          = fun x => x.id := by
        funext x
        simp only [Function.comp]
        split
        · exact (endedBy_fixed i reason x).1
        · rfl
      rw [hid]
      congr 2
      funext x
      simp only [Function.comp]
      split
      · rw [(endedBy_fixed i reason x).2, (endedBy_ended i reason x).1, getLsbD_or_segMask_of_ne hj]
      · rfl
  · have := hload hl
    simp [this] at he

/-- A pixel taken for the current exposure of a READING record (R37). -/
theorem takePixel_ledger {s : State} {i : SegIdx} {id : Nat} (cls : PixelClass)
    (hcur : s.progress[i].state.exposure = some id) (h : s.LedgerBalances) : (s.takePixel i id cls).LedgerBalances := by
  have htaken := withTaken_ledger cls hcur h
  by_cases hext : s.progress[i].count + 1 < s.segs[i].extent
  · rw [takePixel_of_lt (ledger_nodup h) id cls hext]
    exact setProgress_ledger rfl htaken
  · rw [takePixel_completes cls h hcur (Nat.le_of_not_lt hext), ← testDone_setProgress]
    exact testDone_ledger id (withEnded_ledger none _ hcur htaken)

/-- A frame cut short (R38). -/
theorem shortFrame_ledger {s : State} {i : SegIdx} {id : Nat} (hcur : s.progress[i].state.exposure = some id)
    (h : s.LedgerBalances) : (s.shortFrame i id).LedgerBalances := by
  rw [shortFrame_eq h hcur]
  have hmoved := testDone_ledger id (withEnded_ledger (some .short) s.progress[i] hcur h)
  rw [testDone_setProgress] at hmoved
  exact bump_ledger .shortFrames hmoved

/-! ### The progress unit at a pixel (R34 to R38) -/

theorem orphan_ledger {s : State} (h : s.LedgerBalances) : s.orphan.LedgerBalances :=
  bump_ledger .orphanPixels (setFlag_ledger .orphanPixels h)

theorem offerFirst_ledger (i : SegIdx) (cls : PixelClass) {s : State} (h : s.LedgerBalances) :
    (s.offerFirst i cls).1.LedgerBalances := by
  unfold State.offerFirst
  split
  · next id harmed =>
    refine takePixel_ledger cls ?_ (setProgress_ledger ?_ h)
    · rw [State.startFrame, progress_setProgress_self]
      rfl
    · rw [harmed]
      rfl
  · exact orphan_ledger h

theorem offer_ledger (i : SegIdx) (p : Nat) (cls : PixelClass) {s : State} (h : s.LedgerBalances) :
    (s.offer i p cls).1.LedgerBalances := by
  unfold State.offer
  split
  · exact orphan_ledger h
  · split
    · exact offerFirst_ledger i cls h
    · exact orphan_ledger h
  · next id hread =>
    split
    · exact offerFirst_ledger i cls (shortFrame_ledger (exposure_of_reading hread) h)
    · exact takePixel_ledger cls (exposure_of_reading hread) h

theorem withRow_state (r : SegRecord) (a : Accumulator) (p : Progress) : (p.withRow r a).state = p.state := by
  unfold Progress.withRow
  split <;> rfl

theorem gather_ledger (i : SegIdx) (row raw : Nat) {s : State} (h : s.LedgerBalances) :
    (s.gather i row raw).LedgerBalances := by
  unfold State.gather
  split
  · exact setProgress_ledger (by rw [withRow_state]) h
  · split
    · exact setProgress_ledger (by rw [withRow_state]) h
    · exact setProgress_ledger (by rw [withRow_state]; simp [State.loseRow])
        (bump_ledger .biasRowsLost (setFlag_ledger .biasRowLost h))

theorem visitPixel_ledger (i : SegIdx) (p raw : Nat) {s : State} (h : s.LedgerBalances) :
    (s.visitPixel i p raw).1.LedgerBalances := by
  unfold State.visitPixel
  split
  · exact orphan_ledger h
  · exact gather_ledger i _ raw (offer_ledger i p _ h)
  · exact offer_ledger i p _ h

theorem visitPixels_ledger (i : SegIdx) (l : List (Nat × Nat)) {s : State} (h : s.LedgerBalances) :
    (s.visitPixels i l).1.LedgerBalances := by
  induction l generalizing s with
  | nil => exact h
  | cons px rest ih => exact ih (visitPixel_ledger i px.1 px.2 h)

/-! ### A cut (R27, R29, R40) -/

theorem isOn_iff (p : ProgressState) (id : Nat) : p.isOn id = true ↔ p = .armed id ∨ p = .reading id := by
  cases p <;> simp [ProgressState.isOn]

theorem exposure_eq_some_iff (p : ProgressState) (id : Nat) : p.exposure = some id ↔ p = .armed id ∨ p = .reading id := by
  cases p <;> simp [ProgressState.exposure]

theorem toDraining_join {e : Exposure} (reason : CutReason) (hsub : e.ended &&& e.segSet = e.ended) :
    (e.join e.segSet (some reason)).toDraining = e.cutFor reason := by
  have hall : e.ended ||| e.segSet = e.segSet := by
    rw [← hsub]
    ext n hn
    simp
  have hreason : (e.cutReason <|> some reason) = some (e.cutReason.getD reason) := by
    cases e.cutReason <;> rfl
  simp only [Exposure.join, Exposure.toDraining, hall, hreason, Option.isSome_some]

theorem exposure?_moveAllFrom (id x : Nat) (s : State) : (s.moveAllFrom id).exposure? x = s.exposure? x := by
  unfold State.moveAllFrom
  generalize Vector.ofFn _ = progress
  rfl

theorem updateExposure_moveAllFrom (id : Nat) (f : Exposure → Exposure) (s : State) :
    ((s.moveAllFrom id).updateExposure id f).request
      = { s with
          queue := (s.updateExposure id f).queue, progress := (s.moveAllFrom id).progress, requested := true } := by
  unfold State.moveAllFrom
  generalize Vector.ofFn _ = progress
  rfl

/-- A cut of a QUEUED or READING exposure: every segment ended, the records on it at their next assignments, and the test
for DONE (R27, R29, R40). -/
theorem cutExposure_eq {s : State} {e : Exposure} (reason : CutReason) (hnd : (s.queue.map (·.id)).Nodup)
    (he : e ∈ s.queue) (hopen : e.state = .queued ∨ e.state = .reading) (hsub : e.ended &&& e.segSet = e.ended) :
    s.cutExposure e.id reason = (s.withCut e.id reason).testDone e.id := by
  have hall : e.ended ||| e.segSet = e.segSet := congrArg Exposure.ended (toDraining_join reason hsub)
  have hjoined : State.exposure? ((s.updateExposure e.id (Exposure.join e.segSet (some reason))).moveAllFrom e.id) e.id
      = some (e.join e.segSet (some reason)) := by
    rw [exposure?_moveAllFrom]
    exact exposure?_updateExposure (fun _ => rfl) hnd he
  have hqueue : (s.updateExposure e.id fun x => (x.join e.segSet (some reason)).toDraining).queue
      = (s.withCut e.id reason).queue := by
    refine List.map_congr_left fun x hx => ?_
    by_cases hid : x.id = e.id
    · obtain rfl := eq_of_exposure? hnd (exposure?_of_mem hnd he) hx hid
      simp only [if_true, toDraining_join reason hsub]
    · simp only [if_neg hid]
  have hmap := congrArg State.queue (updateExposure_updateExposure (id := e.id)
    (f := Exposure.join e.segSet (some reason)) (g := Exposure.toDraining) (fun _ => rfl) s)
  rw [hqueue] at hmap
  have hnext (i : SegIdx) : nextAssignment i (s.updateExposure e.id (Exposure.join e.segSet (some reason))).queue
      = nextAssignment i (s.withCut e.id reason).queue := by
    rw [← hmap]
    refine (nextAssignment_map (fun x => ?_) i _).symm
    split <;> exact ⟨rfl, rfl, rfl⟩
  have hprogress : ((s.updateExposure e.id (Exposure.join e.segSet (some reason))).moveAllFrom e.id).progress
      = (s.withCut e.id reason).progress := by
    refine congrArg Vector.ofFn (funext fun i => ?_)
    rw [hnext, updateExposure_progress, assign_eq_movedTo]
    by_cases hon : s.progress[i].state.isOn e.id = true
    · rw [if_pos hon, if_pos ((isOn_iff _ _).mp hon)]
    · rw [if_neg hon, if_neg (mt (isOn_iff _ _).mpr hon)]
  have hstate : (((s.updateExposure e.id (Exposure.join e.segSet (some reason))).moveAllFrom e.id).updateExposure e.id
        Exposure.toDraining).request = s.withCut e.id reason := by
    rw [updateExposure_moveAllFrom, hmap, hprogress]
    rfl
  unfold State.cutExposure
  simp only [exposure?_of_mem hnd he]
  unfold State.testDraining
  simp only [hjoined]
  rw [if_pos ⟨hopen, hall⟩, hstate]

theorem cutFor_inOrder (reason : CutReason) {e : Exposure} (h : e.InOrder) : (e.cutFor reason).InOrder := by
  obtain ⟨-, -, -, hbalance⟩ := h
  refine ⟨BitVec.and_self, iff_of_true (.inl rfl) rfl, fun h => ?_, hbalance⟩
  cases h

theorem find?_congr_of_ne {q : List Exposure} {f : Exposure → Exposure} {p : Exposure → Bool} {id : Nat}
    (hother : ∀ e, e.id ≠ id → f e = e) (hcut : ∀ e, e.id = id → p (f e) = false)
    (hfirst : (q.find? p).map (·.id) ≠ some id) : ((q.map f).find? p).map (·.id) = (q.find? p).map (·.id) := by
  induction q with
  | nil => rfl
  | cons e rest ih =>
    by_cases he : e.id = id
    · by_cases hp : p e = true
      · simp [hp, he] at hfirst
      · simp only [List.find?_cons, Bool.eq_false_iff.mpr hp] at hfirst
        simp only [List.map_cons, List.find?_cons, hcut e he, Bool.eq_false_iff.mpr hp]
        exact ih hfirst
    · rw [List.map_cons, hother e he, List.find?_cons, List.find?_cons] at *
      split
      · rfl
      · next hp => exact ih (by simpa [hp] using hfirst)

theorem withCut_ledger {s : State} (id : Nat) (reason : CutReason) (h : s.LedgerBalances) :
    (s.withCut id reason).LedgerBalances := by
  obtain ⟨hnd, horder, hretired, hassigned, hload⟩ := h
  have hfixed (e : Exposure) : (if e.id = id then e.cutFor reason else e).id = e.id := by split <;> rfl
  refine ⟨?_, fun x hx => ?_, hretired, fun i => ?_, fun hl => ?_⟩
  · have hids : ((s.queue.map fun e => if e.id = id then e.cutFor reason else e).map (·.id)) = s.queue.map (·.id) := by
      rw [List.map_map]
      exact List.map_congr_left fun e _ => hfixed e
    rwa [hids]
  · change x ∈ s.queue.map _ at hx
    obtain ⟨e, he, rfl⟩ := List.mem_map.mp hx
    split
    · exact cutFor_inOrder reason (horder e he)
    · exact horder e he
  · have hat : (s.withCut id reason).progress[i] = if s.progress[i].state = .armed id ∨ s.progress[i].state = .reading id
        then s.progress[i].movedTo (nextAssignment i (s.withCut id reason).queue) else s.progress[i] :=
      Vector.getElem_ofFn i.2
    rw [hat]
    split
    · exact movedTo_exposure _ _
    · next hoff =>
      refine (hassigned i).trans (find?_congr_of_ne (id := id) (fun e he => if_neg he) (fun e he => ?_) ?_).symm
      · rw [if_pos he]
        simp
      · rw [← exposure_eq_some_iff, hassigned i] at hoff
        exact hoff
  · show s.queue.map _ = []
    rw [hload hl]
    rfl

/-- A cut of a QUEUED or READING exposure keeps the ledger. -/
theorem cutExposure_ledger {s : State} {e : Exposure} (reason : CutReason) (he : e ∈ s.queue)
    (hopen : e.state = .queued ∨ e.state = .reading) (h : s.LedgerBalances) :
    (s.cutExposure e.id reason).LedgerBalances := by
  have hsub : e.ended &&& e.segSet = e.ended := by
    obtain ⟨-, horder, -⟩ := h
    exact (horder e he).1
  rw [cutExposure_eq reason (ledger_nodup h) he hopen hsub]
  exact testDone_ledger e.id (withCut_ledger e.id reason h)

end Sys2Proof.Machine
end

section
/-! What every operation keeps: the invariants of the part, each from its own fields alone. An operation that leaves those
fields as they are, or only empties them, is quiet; the others are the moves of the exposures, of the stacks and of the
placement queue, the issue of a transfer, and the two resets. -/

namespace Sys2Proof.Machine

/-- From `s` to `u` every invariant is kept, each by itself, and so is the queue of waiting commands. -/
structure KeepsInvariants (s u : State) : Prop where
  pending : u.pending = s.pending
  attends : s.Attends → u.Attends
  lock : s.LockAgrees → u.LockAgrees
  capacity : s.WithinCapacity → u.WithinCapacity
  ledger : s.LedgerBalances → u.LedgerBalances
  references : s.ReferencesAgree → u.ReferencesAgree
  order : s.PlacementInOrder → u.PlacementInOrder

theorem KeepsInvariants.refl (s : State) : KeepsInvariants s s := ⟨rfl, id, id, id, id, id, id⟩

theorem KeepsInvariants.trans {s u w : State} (h : KeepsInvariants s u) (g : KeepsInvariants u w) :
    KeepsInvariants s w where
  pending := g.pending.trans h.pending
  attends := g.attends ∘ h.attends
  lock := g.lock ∘ h.lock
  capacity := g.capacity ∘ h.capacity
  ledger := g.ledger ∘ h.ledger
  references := g.references ∘ h.references
  order := g.order ∘ h.order

/-! ### Quiet operations -/

/-- The fields the invariants speak of are as they were, or emptied: a transfer in flight may land or be let go, the lock
state may return to NONE, the presented placement transfer may be withdrawn. -/
structure Quiet (s u : State) : Prop where
  pending : u.pending = s.pending := by simp
  attends : s.Attends → u.Attends
  lock : u.lockState = .free ∨ u.lock = s.lock ∧ u.lockState = s.lockState
    ∧ (u.initialLead = true → s.initialLead = true) := by simp
  inFlight : ∀ f ∈ u.inFlight, ∃ g ∈ s.inFlight, g.owner = f.owner ∧ (f.live = true → g.live = true) := by
    simpa using fun f hf => ⟨f, hf, rfl, id⟩
  queue : u.queue = s.queue := by simp
  retired : u.retired = s.retired := by simp
  intake : u.intake.length ≤ max s.intake.length Config.intakeCapacity := by simp
  entries : u.entries = s.entries := by simp
  nextEntry : u.nextEntry = s.nextEntry := by simp
  placePresented : u.placePresented = s.placePresented ∨ u.placePresented = none := by simp
  sweepWait : u.sweepWait ≤ max s.sweepWait Config.sweepPatience := by simp
  progress : ∀ i : SegIdx, u.progress[i].state.exposure = s.progress[i].state.exposure := by simp
  engine : u.engine.loading = true → s.engine.loading = true ∨ s.queue = [] := by simp +contextual
  stack : ∀ k, u.stack k = s.stack k := by simp [State.stack]
  sweep : ∀ w, u.sweep = some w → ∃ v, s.sweep = some v ∧ v.slot = w.slot := by simp +contextual

theorem Quiet.keepsLock {s u : State} (h : Quiet s u) (hs : s.LockAgrees) : u.LockAgrees := by
  obtain ⟨hfree, hheld⟩ := hs
  rcases h.lock with hu | ⟨hlock, hstate, hlead⟩
  · exact ⟨fun _ => hu, fun hh => by rw [hu] at hh; cases hh⟩
  · refine ⟨fun hn => hstate.trans (hfree (hlock ▸ hn)), fun hh => ?_⟩
    obtain ⟨hclear, hown⟩ := hheld (hstate ▸ hh)
    refine ⟨Bool.eq_false_iff.mpr fun hu => ?_, fun f hf => ?_⟩
    · rw [hlead hu] at hclear
      cases hclear
    · obtain ⟨g, hg, howner, -⟩ := h.inFlight f hf
      exact howner ▸ hown g hg

theorem Quiet.keepsOrder {s u : State} (h : Quiet s u) (hs : s.PlacementInOrder) : u.PlacementInOrder := by
  have hunder (tag : Nat) : u.placementUnderWay tag → s.placementUnderWay tag := by
    rintro (hp | ⟨f, hf, howner, hlive⟩)
    · rcases h.placePresented with he | he
      · exact .inl (he ▸ hp)
      · rw [he] at hp
        cases hp
    · obtain ⟨g, hg, hsame, hkeep⟩ := h.inFlight f hf
      exact .inr ⟨g, hg, hsame.trans howner, hkeep hlive⟩
  obtain ⟨htags, hbelow, hlines, hnext, hwaiting⟩ := hs
  rw [State.PlacementInOrder, h.entries, h.nextEntry]
  exact ⟨htags, hbelow, hlines, fun tag ht => hnext tag (hunder tag ht), fun e he hu => hwaiting e he (hunder _ hu)⟩

theorem Quiet.keeps {s u : State} (h : Quiet s u) : KeepsInvariants s u where
  pending := h.pending
  attends := h.attends
  lock := h.keepsLock
  capacity := by
    rintro ⟨hqueue, hretired, hintake, hentries, hwait⟩
    exact ⟨h.queue ▸ hqueue, h.retired ▸ hretired, h.intake.trans (max_le hintake le_rfl), h.entries ▸ hentries,
      h.sweepWait.trans (max_le hwait le_rfl)⟩
  ledger := ledger_congr h.queue h.retired h.progress h.engine
  references := referencesAgree_congr (by rw [h.queue]) h.stack h.sweep
  order := h.keepsOrder

section
variable (s : State)

theorem setFlag_quiet (f : Flag) : Quiet s (s.setFlag f) := { attends := setFlag_attends f }

theorem bump_quiet (c : Counter) : Quiet s (s.bump c) := { attends := id }

theorem request_quiet : Quiet s s.request := { attends := id }

theorem clearCounters_quiet : Quiet s s.clearCounters := { attends := id }

theorem clearFlags_quiet (select : BitVec 15) : Quiet s (s.clearFlags select) where
  attends h := by
    rw [clearFlags_eq select h]
    rfl

theorem replaceEnables_quiet (mask : BitVec 15) : Quiet s (s.replaceEnables mask) := { attends := fun _ => rfl }

theorem settleRequests_quiet : Quiet s s.settleRequests where
  attends h := by simpa [State.Attends] using h

theorem endRewrite_quiet : Quiet s s.endRewrite where
  attends h := by simpa [State.Attends] using h

theorem answer_quiet (t : Transfer) (a : Answer) : Quiet s (s.answer t a) := { attends := id }

theorem hold_quiet (t : Transfer) (r : HoldReason) : Quiet s (s.hold t r) := { attends := id }

theorem endLock_quiet : Quiet s s.endLock := { attends := id, lock := .inl rfl }

theorem land_quiet (p : InFlight → Bool) : Quiet s (s.land p) where
  attends := id
  inFlight f hf := ⟨f, List.mem_of_mem_eraseP hf, rfl, id⟩

theorem updateSlot_quiet (slot : Nat) (f : IntakeSlot → IntakeSlot) : Quiet s (s.updateSlot slot f) where
  attends := id
  intake := by simp [State.updateSlot]

theorem walkSlots_length (l : List IntakeSlot) : (walkSlots l).length = l.length := (walkSlots_at l).1

theorem settleIntake_quiet : Quiet s s.settleIntake where
  attends := id
  intake := by
    refine le_max_of_le_left ?_
    rw [← walkSlots_length s.intake]
    exact (List.dropWhile_suffix _).length_le

theorem memoryFault_keeps : KeepsInvariants s s.memoryFault :=
  (setFlag_quiet s _).keeps.trans (bump_quiet _ _).keeps

theorem finish_keeps (c : CurrentCommand) (r : ResultCode) (d : Nat) : KeepsInvariants s (s.finish c r d) :=
  Quiet.keeps
    { attends := fun h => by
        rw [State.finish, endCommand_eq _ _ _ _ s h]
        rfl
      engine := by simp [State.finish, State.endCommand, Engine.loading] }

theorem endCommand_keeps (code tag : BitVec 8) (r : ResultCode) (d : Nat) :
    KeepsInvariants s (s.endCommand code tag r d) :=
  Quiet.keeps
    { attends := fun h => by
        rw [endCommand_eq _ _ _ _ s h]
        rfl
      engine := by simp [State.endCommand, Engine.loading] }

end

/-! ### Moves of the exposures -/

theorem ExposuresMove.keeps {s u : State} (h : ExposuresMove s u) (hledger : s.LedgerBalances → u.LedgerBalances) :
    KeepsInvariants s u where
  pending := by rw [h.frame]
  attends := h.attends
  lock := by
    rw [h.frame]
    exact id
  capacity := by
    rintro ⟨hqueue, hretired, hrest⟩
    refine ⟨h.queueLength.trans hqueue, h.retiredLength hretired, ?_⟩
    rw [h.frame]
    exact hrest
  ledger := hledger
  references := h.references
  order := by
    rw [h.frame]
    exact id

theorem testDone_keeps (id : Nat) (s : State) : KeepsInvariants s (s.testDone id) :=
  (testDone_moves id s).keeps (testDone_ledger id)

theorem testAll_keeps (ids : List Nat) (s : State) : KeepsInvariants s (s.testAll ids) :=
  (testAll_moves ids s).keeps (testAll_ledger ids)

theorem reportFate_keeps (id : Nat) (f : Fate) (s : State) : KeepsInvariants s (s.reportFate id f) :=
  (reportFate_moves id f s).keeps (reportFate_ledger id f)

/-! ### Moves of the stacks -/

/-- The stacks have moved from `s` to `u`: their records, the row in work and what a step signals may differ, and nothing
else. -/
structure StacksMove (s u : State) : Prop where
  frame : u = { s with
    stack0 := u.stack0, stack1 := u.stack1, sweep := u.sweep, flags := u.flags, attn := u.attn, counters := u.counters
    requested := u.requested }
  attends : s.Attends → u.Attends

theorem StacksMove.refl (s : State) : StacksMove s s := ⟨rfl, id⟩

theorem StacksMove.trans {s u w : State} (h : StacksMove s u) (g : StacksMove u w) : StacksMove s w where
  frame := g.frame.trans (by rw [h.frame])
  attends := g.attends ∘ h.attends

theorem StacksMove.keeps {s u : State} (h : StacksMove s u) (href : s.ReferencesAgree → u.ReferencesAgree) :
    KeepsInvariants s u where
  pending := by rw [h.frame]
  attends := h.attends
  lock := by
    rw [h.frame]
    exact id
  capacity := by
    rw [h.frame]
    exact id
  ledger := by
    rw [h.frame]
    exact id
  references := href
  order := by
    rw [h.frame]
    exact id

/-- The reference counts agree with the queue, and a stack with a nonzero one is OPEN (R100). -/
def State.CountsAgree (s : State) : Prop :=
  (∀ k, (s.stack k).refCount = (s.queue.filter fun e => e.stackSlot = k).length)
    ∧ ∀ k, 0 < (s.stack k).refCount → (s.stack k).state = .openState

theorem countsAgree_of_references {s : State} (h : s.ReferencesAgree) : s.CountsAgree := by
  obtain ⟨hcount, hopen, -⟩ := h
  exact ⟨hcount, hopen⟩

theorem countsAgree_congr {s u : State} (hq : u.queue = s.queue) (hstack : ∀ k, u.stack k = s.stack k)
    (h : s.CountsAgree) : u.CountsAgree := by
  simpa only [State.CountsAgree, hq, hstack] using h

/-- A stack no queued exposure names may take any record that none names. -/
theorem setStack_counts {s : State} {k : StackSlot} {r : StackRecord} (hk : (s.stack k).refCount = 0)
    (hr : r.refCount = 0) (h : s.CountsAgree) : (s.setStack k r).CountsAgree := by
  obtain ⟨hcount, hopen⟩ := h
  refine ⟨fun j => ?_, fun j => ?_⟩ <;> rw [stack_setStack] <;> split
  · next hj => rw [setStack_queue, hr, hj, ← hcount, hk]
  · rw [setStack_queue, hcount]
  · exact fun h => absurd hr h.ne'
  · exact hopen j

/-- A sweep in progress has no queued exposure naming its stack. -/
theorem refCount_of_sweeping {s : State} {k : StackSlot} (h : s.ReferencesAgree) (hk : (s.stack k).sweeping = true) :
    (s.stack k).refCount = 0 := by
  obtain ⟨-, hopen, -⟩ := h
  by_contra hne
  rw [StackRecord.sweeping, hopen k (Nat.pos_of_ne_zero hne)] at hk
  cases hk

theorem rowStart_slot (s : State) (k : StackSlot) : (s.rowStart k).slot = k := rfl

/-- The row the engine takes up is of a stack with a sweep in progress (R104). -/
theorem takeUp_references (k : StackSlot) {s : State} (h : s.CountsAgree) : (s.takeUp k).ReferencesAgree := by
  obtain ⟨hcount, hopen⟩ := h
  refine ⟨hcount, hopen, fun w hw => ?_⟩
  change (if (s.stack k).sweeping then some (s.rowStart k)
    else if (s.stack k.other).sweeping then some (s.rowStart k.other) else none) = some w at hw
  show (s.stack w.slot).sweeping = true
  split at hw
  · next hk =>
    obtain rfl := Option.some.inj hw
    exact hk
  · split at hw
    · next hk =>
      obtain rfl := Option.some.inj hw
      exact hk
    · cases hw

theorem takeUp_stacks (k : StackSlot) (s : State) : StacksMove s (s.takeUp k) := ⟨rfl, id⟩

theorem setStack_stacks (k : StackSlot) (r : StackRecord) (s : State) : StacksMove s (s.setStack k r) := by
  cases k <;> exact ⟨rfl, id⟩

theorem request_stacks (s : State) : StacksMove s s.request := ⟨rfl, id⟩

theorem requestIf_stacks (wanted : Bool) (s : State) : StacksMove s (s.requestIf wanted) := ⟨rfl, id⟩

theorem bump_stacks (c : Counter) (s : State) : StacksMove s (s.bump c) := ⟨rfl, id⟩

theorem setFlag_stacks (f : Flag) (s : State) : StacksMove s (s.setFlag f) := by
  have hattends := setFlag_attends f (s := s)
  unfold State.setFlag at hattends ⊢
  split
  · exact StacksMove.refl s
  · next hclear => exact ⟨rfl, by simpa only [if_neg hclear] using hattends⟩

theorem takeUp_keeps (k : StackSlot) (s : State) : KeepsInvariants s (s.takeUp k) :=
  (takeUp_stacks k s).keeps fun h => takeUp_references k (countsAgree_of_references h)

/-- A row of the stack in work is complete (R105, R106, R109, R113). -/
theorem completeRow_keeps {w : SweepWork} {s : State} (hw : s.sweep = some w) :
    KeepsInvariants s (s.completeRow w.slot) := by
  have hzero (h : s.ReferencesAgree) : (s.stack w.slot).refCount = 0 :=
    refCount_of_sweeping h (by obtain ⟨-, -, hwork⟩ := h; exact hwork w hw)
  by_cases hrow : (s.stack w.slot).cursor + 1 < (s.stack w.slot).height
  · rw [completeRow_of_lt hrow]
    refine ((setStack_stacks _ _ s).trans ((requestIf_stacks _ _).trans (takeUp_stacks _ _))).keeps fun h => takeUp_references _ ?_
    exact countsAgree_congr rfl (fun _ => rfl) (setStack_counts (hzero h) (hzero h) (countsAgree_of_references h))
  · rw [completeRow_of_ge (Nat.le_of_not_lt hrow)]
    refine ((setStack_stacks _ _ s).trans ((setFlag_stacks _ _).trans ((request_stacks _).trans
      (takeUp_stacks _ _)))).keeps fun h => takeUp_references _ ?_
    exact countsAgree_congr (by simp) (fun k => by cases k <;> simp [State.stack]) (setStack_counts (k := w.slot)
      (r := { s.stack w.slot with state := (s.stack w.slot).state.swept, cursor := (s.stack w.slot).cursor + 1 })
      (hzero h) (hzero h) (countsAgree_of_references h))

/-- The next line of the row in work, or the row's end. -/
theorem nextLine_keeps {w : SweepWork} {s : State} (hw : s.sweep = some w) (lines : Nat) (step : SweepStep) :
    KeepsInvariants s (s.nextLine w lines step) := by
  unfold State.nextLine
  split
  · exact Quiet.keeps
      { attends := id
        sweep := fun v hv => ⟨w, hw, by rw [← Option.some.inj hv]⟩ }
  · exact completeRow_keeps hw

theorem clearFault_keeps {w : SweepWork} {s : State} (hw : s.sweep = some w) : KeepsInvariants s (s.clearFault w.slot) := by
  refine ((setStack_stacks _ _ s).trans ((setFlag_stacks _ _).trans ((setFlag_stacks _ _).trans ((bump_stacks _ _).trans
    ((request_stacks _).trans (takeUp_stacks _ _)))))).keeps fun h => takeUp_references _ ?_
  have hzero : (s.stack w.slot).refCount = 0 :=
    refCount_of_sweeping h (by obtain ⟨-, -, hwork⟩ := h; exact hwork w hw)
  exact countsAgree_congr (by simp) (fun k => by cases k <;> simp [State.stack]) (setStack_counts (k := w.slot)
    (r := { s.stack w.slot with state := .empty }) hzero hzero (countsAgree_of_references h))

/-- A sweep accepted on a stack that no queued exposure names (R103, R104, R108). -/
theorem beginSweep_keeps {s : State} {k : StackSlot} {r : StackRecord}
    (hk : s.ReferencesAgree → (s.stack k).refCount = 0) (hr : r.refCount = 0) (hsweep : r.sweeping = true) :
    KeepsInvariants s ((s.setStack k r).beginSweep k).request := by
  have hset : KeepsInvariants s (s.setStack k r) := by
    refine (setStack_stacks k r s).keeps fun h => ?_
    obtain ⟨hcount, hopen⟩ := setStack_counts (hk h) hr (countsAgree_of_references h)
    obtain ⟨-, -, hwork⟩ := h
    refine ⟨hcount, hopen, fun w hw => ?_⟩
    rw [stack_setStack]
    split
    · exact hsweep
    · exact hwork w (by simpa using hw)
  refine hset.trans (.trans ?_ (request_quiet _).keeps)
  unfold State.beginSweep
  split
  · exact takeUp_keeps k _
  · exact .refl _

/-! ### The placement queue (R82 to R86) -/

/-- The placement queue has changed, within its capacity and in its order. -/
theorem KeepsInvariants.of_entries {s : State} {entries : List Entry} {nextEntry : Nat} {presented : Option Nat}
    (hlength : s.entries.length ≤ Config.placementCapacity → entries.length ≤ Config.placementCapacity)
    (horder : s.PlacementInOrder →
      State.PlacementInOrder { s with entries := entries, nextEntry := nextEntry, placePresented := presented }) :
    KeepsInvariants s { s with entries := entries, nextEntry := nextEntry, placePresented := presented } where
  pending := rfl
  attends := id
  lock := id
  capacity := by
    rintro ⟨hqueue, hretired, hintake, hentries, hwait⟩
    exact ⟨hqueue, hretired, hintake, hlength hentries, hwait⟩
  ledger := id
  references := id
  order := horder

theorem entry_unique {l : List Entry} (hl : (l.map (·.tag)).Pairwise (· < ·)) {a b : Entry} (ha : a ∈ l) (hb : b ∈ l)
    (h : a.tag = b.tag) : a = b := by
  have hnd : (l.map (·.tag)).Nodup := hl.imp (fun h => Nat.ne_of_lt h)
  exact List.inj_on_of_nodup_map hnd ha hb h

/-- A change of one entry that keeps its number and its line keeps the order, if it starts only where no older entry names
its line and waits again only while no transfer of it is under way. -/
theorem updateEntry_order {s : State} {tag : Nat} {f : Entry → Entry} (presented : Option Nat)
    (hf : ∀ e, (f e).tag = e.tag ∧ (f e).line = e.line)
    (hstart : s.entries.Pairwise fun a e => e.tag = tag → (f e).state ≠ .waiting → a.line ≠ e.line)
    (hpresented : presented = s.placePresented ∨ presented = some tag ∧ tag < s.nextEntry)
    (hunder : ∀ e ∈ s.entries, e.tag = tag → presented = some tag ∨ s.placementUnderWay tag → (f e).state ≠ .waiting)
    (h : s.PlacementInOrder) : State.PlacementInOrder { s.updateEntry tag f with placePresented := presented } := by
  obtain ⟨htags, hbelow, hlines, hnext, hwaiting⟩ := h
  have hg (e : Entry) : (if e.tag = tag then f e else e).tag = e.tag ∧ (if e.tag = tag then f e else e).line = e.line := by
    split
    · exact hf e
    · exact ⟨rfl, rfl⟩
  have hway (n : Nat) : State.placementUnderWay { s.updateEntry tag f with placePresented := presented } n →
      presented = some tag ∧ n = tag ∨ s.placementUnderWay n := by
    rintro (hp | hfly)
    · rcases hpresented with hsame | ⟨hnew, -⟩
      · exact .inr (.inl (hsame ▸ hp))
      · exact .inl ⟨hnew, Option.some.inj ((show presented = some n from hp).symm.trans hnew)⟩
    · exact .inr (.inr hfly)
  refine ⟨?_, ?_, ?_, fun n hn => ?_, ?_⟩
  · simpa only [State.updateEntry, List.map_map, Function.comp_def, hg] using htags
  · intro x hx
    obtain ⟨e, he, rfl⟩ := List.mem_map.mp hx
    rw [(hg e).1]
    exact hbelow e he
  · refine List.pairwise_map.mpr ((hlines.and hstart).imp fun {a e} hae hstarted => ?_)
    obtain ⟨hkept, hnew⟩ := hae
    rw [(hg a).2, (hg e).2]
    by_cases he : e.tag = tag
    · exact hnew he (by rwa [if_pos he] at hstarted)
    · exact hkept (by rwa [if_neg he] at hstarted)
  · rcases hway n hn with ⟨hnew, rfl⟩ | hold
    · rcases hpresented with hsame | ⟨-, hlt⟩
      · exact hnext n (.inl (hsame ▸ hnew))
      · exact hlt
    · exact hnext n hold
  · intro x hx hway'
    obtain ⟨e, he, rfl⟩ := List.mem_map.mp hx
    rw [(hg e).1] at hway'
    by_cases htag : e.tag = tag
    · rw [if_pos htag]
      refine hunder e he htag ?_
      rcases hway _ hway' with ⟨hnew, -⟩ | hold
      · exact .inl hnew
      · exact .inr (htag ▸ hold)
    · rw [if_neg htag]
      rcases hway _ hway' with ⟨-, heq⟩ | hold
      · exact absurd heq htag
      · exact hwaiting e he hold

end Sys2Proof.Machine
end

section
/-! The placement queue, the calibration unit and the arbiter keep the invariants (R66, R73, R82 to R90, R147 to R151). -/

namespace Sys2Proof.Machine

/-! ### The placement queue (R83, R86 to R90) -/

theorem watchCompare_quiet (c : Contribution) (s : State) : KeepsInvariants s (s.watchCompare c) := by
  have hhits : Quiet s (s.withHits c) := by
    unfold State.withHits
    exact { attends := id }
  by_cases h : ∃ i : Fin 4, s.watch[i].matches c = true
  · rw [watchCompare_of_match h]
    exact hhits.keeps.trans ((setFlag_quiet _ _).keeps.trans (request_quiet _).keeps)
  · rw [watchCompare_of_no_match fun i hi => h ⟨i, hi⟩]
    exact .refl s

theorem newEntry_keeps {line : Nat} {j : Fin 4} {c : Contribution} {s u : State} (h : s.newEntry line j c = some u) :
    KeepsInvariants s u := by
  unfold State.newEntry at h
  split at h
  · next hroom =>
    obtain rfl := Option.some.inj h
    refine KeepsInvariants.of_entries (fun _ => ?_) ?_
    · rw [List.length_append]
      exact hroom
    rintro ⟨htags, hbelow, hlines, hnext, hwaiting⟩
    refine ⟨?_, fun e he => ?_, ?_, fun tag ht => Nat.lt_succ_of_lt (hnext tag ht), fun e he hu => ?_⟩
    · rw [List.map_append, List.pairwise_append]
      refine ⟨htags, List.pairwise_singleton _ _, fun n hn m hm => ?_⟩
      obtain ⟨e, he, rfl⟩ := List.mem_map.mp hn
      obtain rfl := List.mem_singleton.mp hm
      exact hbelow e he
    · rcases List.mem_append.mp he with he | he
      · exact Nat.lt_succ_of_lt (hbelow e he)
      · obtain rfl := List.mem_singleton.mp he
        exact Nat.lt_succ_self _
    · rw [List.pairwise_append]
      refine ⟨hlines, List.pairwise_singleton _ _, fun a _ b hb hstarted => ?_⟩
      obtain rfl := List.mem_singleton.mp hb
      exact absurd rfl hstarted
    · rcases List.mem_append.mp he with he | he
      · exact hwaiting e he hu
      · obtain rfl := List.mem_singleton.mp he
        exact absurd (hnext _ hu) (Nat.lt_irrefl _)
  · cases h

/-- A change of one entry that leaves its state as it is. -/
theorem updateEntry_keeps {tag : Nat} {f : Entry → Entry}
    (hf : ∀ e, (f e).tag = e.tag ∧ (f e).line = e.line ∧ (f e).state = e.state) (s : State) :
    KeepsInvariants s (s.updateEntry tag f) := by
  refine KeepsInvariants.of_entries (by simp) fun h => ?_
  refine updateEntry_order s.placePresented (fun e => ⟨(hf e).1, (hf e).2.1⟩) ?_ (.inl rfl) (fun e he htag hu => ?_) h
  · obtain ⟨-, -, hlines, -⟩ := h
    exact hlines.imp fun {a e} hae _ hstarted => hae ((hf e).2.2 ▸ hstarted)
  · obtain ⟨-, -, -, -, hwaiting⟩ := h
    rw [(hf e).2.2]
    exact hwaiting e he (htag ▸ hu.elim .inl id)

theorem acceptContribution_keeps {line : Nat} {j : Fin 4} {c : Contribution} {s u : State}
    (h : s.acceptContribution line j c = some u) : KeepsInvariants s u := by
  unfold State.acceptContribution at h
  split at h
  · split at h
    · obtain rfl := Option.some.inj h
      exact updateEntry_keeps (f := fun e => { e with lanes := e.lanes.set j.1 (some c) j.2 }) (fun _ => ⟨rfl, rfl, rfl⟩) s
    · exact newEntry_keeps h
  · exact newEntry_keeps h

theorem formContribution_keeps {line : Nat} {j : Fin 4} {c : Contribution} {s u : State}
    (h : s.formContribution line j c = some u) : KeepsInvariants s u := by
  obtain ⟨v, hv, rfl⟩ := Option.map_eq_some_iff.mp h
  exact (acceptContribution_keeps hv).trans (watchCompare_quiet c v)

/-- The entry found waits, and no entry before it names its line (R86). -/
theorem firstEligible_eq_some {older : List Nat} {l : List Entry} {e : Entry} (h : firstEligible older l = some e) :
    ∃ before after, l = before ++ e :: after ∧ e.state = .waiting ∧ e.line ∉ older ∧ ∀ a ∈ before, a.line ≠ e.line := by
  induction l generalizing older with
  | nil => cases h
  | cons x rest ih =>
    rw [firstEligible] at h
    split at h
    · next hx =>
      obtain rfl := Option.some.inj h
      exact ⟨[], rest, rfl, hx.1, hx.2, fun a ha => absurd ha List.not_mem_nil⟩
    · obtain ⟨before, after, rfl, hwaits, hnew, hlines⟩ := ih h
      rw [List.mem_cons, not_or] at hnew
      refine ⟨x :: before, after, rfl, hwaits, hnew.2, fun a ha => ?_⟩
      rcases List.mem_cons.mp ha with rfl | ha
      · exact Ne.symm hnew.1
      · exact hlines a ha

/-- The entry the engine starts is the oldest of its line, and nothing of it is under way (R86). -/
theorem startEntry_keeps {e : Entry} {s : State} (h : firstEligible [] s.entries = some e) :
    KeepsInvariants s (s.startEntry e.tag) := by
  obtain ⟨before, after, hsplit, -, -, hlines⟩ := firstEligible_eq_some h
  have he : e ∈ s.entries := hsplit ▸ List.mem_append_right _ List.mem_cons_self
  refine KeepsInvariants.of_entries (by simp [State.updateEntry]) fun horder => ?_
  have hbelow : e.tag < s.nextEntry := by
    obtain ⟨-, hbelow, -⟩ := horder
    exact hbelow e he
  have htags : (s.entries.map (·.tag)).Pairwise (· < ·) := by
    obtain ⟨htags, -⟩ := horder
    exact htags
  refine updateEntry_order (f := fun e => { e with state := .reading }) (some e.tag) (fun _ => ⟨rfl, rfl⟩) ?_
    (.inr ⟨rfl, hbelow⟩) (fun _ _ _ _ => by simp) horder
  rw [hsplit, List.map_append, List.map_cons, List.pairwise_append, List.pairwise_cons] at htags
  obtain ⟨-, ⟨hafter, -⟩, hcross⟩ := htags
  have hold (b : Entry) (hb : b ∈ before) : b.tag < e.tag :=
    hcross b.tag (List.mem_map_of_mem hb) e.tag List.mem_cons_self
  have hnew (b : Entry) (hb : b ∈ after) : e.tag < b.tag := hafter b.tag (List.mem_map_of_mem hb)
  rw [hsplit, List.pairwise_append, List.pairwise_cons]
  refine ⟨List.pairwise_of_forall_mem_list ?_, ⟨fun b hb htag => ?_, List.pairwise_of_forall_mem_list ?_⟩,
    fun a ha b hb htag => ?_⟩
  · exact fun _ _ b hb htag => absurd htag (hold b hb).ne
  · exact absurd htag (hnew b hb).ne'
  · exact fun _ _ b hb htag => absurd htag (hnew b hb).ne'
  · rcases List.mem_cons.mp hb with rfl | hb
    · exact fun _ => hlines a ha
    · exact absurd htag (hnew b hb).ne'

/-- The engine presents the write of a WRITING entry (R86). -/
theorem presentWrite_keeps (s : State) : KeepsInvariants s s.presentWrite := by
  unfold State.presentWrite
  split
  · exact .refl s
  · next hnone =>
    split
    · next e he =>
      have hmem : e ∈ s.entries := List.mem_of_find?_eq_some he
      have hdue : s.writeDue e = true := List.find?_some he
      have hstate : e.state ≠ .waiting := fun hw => by simp [State.writeDue, hw] at hdue
      refine KeepsInvariants.of_entries (nextEntry := s.nextEntry) id fun horder => ?_
      have horder' := horder
      obtain ⟨htags, hbelow, hlines, -, -⟩ := horder'
      have hkeep := updateEntry_order (f := id) (some e.tag) (fun _ => ⟨rfl, rfl⟩)
        (hlines.imp fun {a b} hab _ hstarted => hab hstarted) (.inr ⟨rfl, hbelow e hmem⟩)
        (fun x hx htag _ => entry_unique htags hx hmem htag ▸ hstate) horder
      simpa [State.updateEntry] using hkeep
    · exact .refl s

/-- An entry leaves (R82). -/
theorem dropEntry_keeps (tag : Nat) (s : State) : KeepsInvariants s (s.dropEntry tag) := by
  refine KeepsInvariants.of_entries (nextEntry := s.nextEntry) (presented := s.placePresented)
    (fun h => (List.length_filter_le _ _).trans h) ?_
  rintro ⟨htags, hbelow, hlines, hnext, hwaiting⟩
  exact ⟨htags.sublist (List.filter_sublist.map _), fun e he => hbelow e (List.mem_of_mem_filter he),
    hlines.sublist List.filter_sublist, hnext, fun e he => hwaiting e (List.mem_of_mem_filter he)⟩

/-- The read of an entry has landed, and it is WRITING (R87). -/
theorem writingEntry_keeps {tag : Nat} {f : InFlight} {s : State} (hf : f ∈ s.inFlight) (howner : f.owner = .placement tag)
    (hlive : f.live = true) (image : Line) (fates : List (Nat × Fate)) :
    KeepsInvariants s (s.updateEntry tag fun e => { e with state := .writing image fates }) := by
  refine KeepsInvariants.of_entries (by simp) fun h => ?_
  refine updateEntry_order (f := fun e => { e with state := .writing image fates }) s.placePresented (fun _ => ⟨rfl, rfl⟩) ?_
    (.inl rfl) (fun _ _ _ _ => by simp) h
  obtain ⟨-, -, hlines, -, hwaiting⟩ := h
  refine hlines.imp_of_mem fun {a e} _ he hae htag _ => hae (hwaiting e he ?_)
  exact .inr ⟨f, hf, htag ▸ howner, hlive⟩

theorem foldl_keeps {α : Type} {g : State → α → State} (hg : ∀ s a, KeepsInvariants s (g s a)) (l : List α) (s : State) :
    KeepsInvariants s (l.foldl g s) := by
  induction l generalizing s with
  | nil => exact .refl s
  | cons a rest ih => exact (hg s a).trans (ih _)

theorem reportKept_keeps (f : Nat × Fate) (s : State) : KeepsInvariants s (s.reportKept f) := by
  unfold State.reportKept
  dsimp only
  split
  · exact (reportFate_keeps _ _ s).trans ((setFlag_quiet _ _).keeps.trans (bump_quiet _ _).keeps)
  · exact reportFate_keeps _ _ s

theorem completeEntry_keeps (tag : Nat) (fates : List (Nat × Fate)) (s : State) :
    KeepsInvariants s (s.completeEntry tag fates) :=
  (foldl_keeps (fun s f => reportKept_keeps f s) fates s).trans ((dropEntry_keeps tag _).trans (testAll_keeps _ _))

theorem loseEntry_keeps (e : Entry) (s : State) : KeepsInvariants s (s.loseEntry e) :=
  (foldl_keeps (fun s id => reportFate_keeps id .lost s) _ s).trans
    ((memoryFault_keeps _).trans ((dropEntry_keeps e.tag _).trans (testAll_keeps _ _)))

/-! ### The calibration unit (R66, R67, R73) -/

theorem advanceCursor_keeps (slot : Nat) (s : State) : KeepsInvariants s (s.advanceCursor slot) :=
  (updateSlot_quiet s slot _).keeps.trans (settleIntake_quiet _).keeps

theorem decidePixel_keeps (sl : IntakeSlot) (e : Exposure) (raw row col : Nat) (s : State) :
    KeepsInvariants s (s.decidePixel sl e raw row col) := by
  have hends (f : Fate) : KeepsInvariants s (((s.reportFate e.id f).advanceCursor sl.tag).testDone e.id) :=
    (reportFate_keeps e.id f s).trans ((advanceCursor_keeps sl.tag _).trans (testDone_keeps e.id _))
  unfold State.decidePixel
  split
  · exact .refl s
  · exact hends .offFrame
  · exact hends .masked
  · dsimp only
    split
    · next hformed => exact (formContribution_keeps hformed).trans (advanceCursor_keeps sl.tag _)
    · exact .refl s

theorem calibrate_keeps (s : State) : KeepsInvariants s s.calibrate := by
  unfold State.calibrate
  split
  · exact .refl s
  · split
    · exact decidePixel_keeps _ _ _ _ _ s
    · exact .refl s

/-! ### The arbiter (R147 to R151) -/

/-- A transfer is issued: during a locked sequence the C-port's alone, and the placement engine's as presented. -/
theorem issue_keeps {o : Owner} {s : State} (x : MemTransfer) (hlock : s.LockAgrees → s.lockState = .held → o = .forward)
    (hplace : ∀ tag, o = .placement tag → s.placePresented = some tag) : KeepsInvariants s (s.issue o x) where
  pending := rfl
  attends := id
  lock := by
    intro hagree
    obtain ⟨hfree, hheld⟩ := hagree
    refine ⟨hfree, fun h => ⟨(hheld h).1, fun f hf => ?_⟩⟩
    rcases List.mem_append.mp hf with hf | hf
    · exact (hheld h).2 f hf
    · obtain rfl := List.mem_singleton.mp hf
      exact hlock ⟨hfree, hheld⟩ h
  capacity := id
  ledger := id
  references := id
  order := by
    rintro ⟨htags, hbelow, hlines, hnext, hwaiting⟩
    have hunder (tag : Nat) (h : (s.issue o x).placementUnderWay tag) : s.placementUnderWay tag := by
      rcases h with hp | ⟨f, hf, howner, hlive⟩
      · exact .inl hp
      · rcases List.mem_append.mp hf with hf | hf
        · exact .inr ⟨f, hf, howner, hlive⟩
        · obtain rfl := List.mem_singleton.mp hf
          exact .inl (hplace tag howner)
    exact ⟨htags, hbelow, hlines, fun tag h => hnext tag (hunder tag h), fun e he h => hwaiting e he (hunder _ h)⟩

theorem afterGrant_keeps (o : Owner) (s : State) : KeepsInvariants s (s.afterGrant o) := by
  cases o with
  | copy slot => exact (updateSlot_quiet s slot _).keeps.trans (settleIntake_quiet _).keeps
  | placement tag =>
    have hclear : Quiet s { s with placePresented := none } := { attends := id }
    exact hclear.keeps.trans (presentWrite_keeps _)
  | status =>
    have hgranted : Quiet s { s with initialLead := false } := { attends := id }
    exact hgranted.keeps
  | _ => exact .refl s

theorem grant_keeps {g : Owner × MemTransfer} {s : State} (hlock : s.LockAgrees → s.lockState = .held → g.1 = .forward)
    (hplace : ∀ tag, g.1 = .placement tag → s.placePresented = some tag) : KeepsInvariants s (s.grant g) :=
  (issue_keeps g.2 hlock hplace).trans (afterGrant_keeps g.1 _)

theorem orElse_eq_some {α : Type} {a b : Option α} {x : α} (h : (a <|> b) = some x) : a = some x ∨ b = some x := by
  cases a with
  | none => exact .inr h
  | some y => exact .inl h

theorem presented_eq_some {α : Type} {s : State} {r : Option α} {x : α} (h : s.presented r = some x) : r = some x := by
  unfold State.presented at h
  split at h
  · cases h
  · exact h

section
variable {s : State} {g : Owner × MemTransfer}

theorem statusRequest_owner (h : s.statusRequest = some g) : g.1 = .status := by
  have h' := presented_eq_some h
  split at h'
  · split at h'
    · cases h'
    · rw [← Option.some.inj h']
  · cases h'

theorem commandRequest_owner (h : s.commandRequest = some g) : g.1 = .command := by
  have h' := presented_eq_some h
  split at h'
  · cases h'
  · obtain ⟨a, -, rfl⟩ := Option.map_eq_some_iff.mp h'
    rfl

theorem placementRequest_owner (h : s.placementRequest = some g) : ∃ tag, s.placePresented = some tag ∧ g.1 = .placement tag := by
  obtain ⟨e, he, hx⟩ := Option.bind_eq_some_iff.mp (presented_eq_some h)
  obtain ⟨tag, htag, hfound⟩ := Option.bind_eq_some_iff.mp he
  obtain ⟨x, -, rfl⟩ := Option.map_eq_some_iff.mp hx
  have : e.tag = tag := by simpa using List.find?_some hfound
  exact ⟨tag, htag, this ▸ rfl⟩

theorem flatGrant_owner (h : s.flatGrant = some g) : ∃ slot, g.1 = .flat slot := by
  obtain ⟨r, -, rfl⟩ := Option.map_eq_some_iff.mp (presented_eq_some h)
  exact ⟨r.1, rfl⟩

theorem sweepTransfer_owner (s : State) (w : SweepWork) : (s.sweepTransfer w).1.isSweep = true := by
  unfold State.sweepTransfer
  dsimp only
  split <;> rfl

theorem sweepRequest_owner (h : s.sweepRequest = some g) : g.1.isSweep = true := by
  have h' := presented_eq_some h
  split at h'
  · cases h'
  · obtain ⟨w, -, rfl⟩ := Option.map_eq_some_iff.mp h'
    exact sweepTransfer_owner s w

theorem sweepGrant_request (h : s.sweepGrant = some g) : s.sweepRequest = some g := (Option.filter_eq_some_iff.mp h).1

theorem copyGrant_owner (h : s.copyGrant = some g) : ∃ slot, g.1 = .copy slot := by
  obtain ⟨sl, -, rfl⟩ := Option.map_eq_some_iff.mp (presented_eq_some (Option.filter_eq_some_iff.mp h).1)
  exact ⟨sl.tag, rfl⟩

/-- A grant to the forward class is no placement transfer (R149). -/
theorem forwardGrant_not_placement (h : s.forwardGrant = some g) (tag : Nat) : g.1 ≠ .placement tag := by
  rcases orElse_eq_some h with hc | hf
  · obtain ⟨slot, hslot⟩ := copyGrant_owner hc
    simp [hslot]
  · obtain ⟨x, -, rfl⟩ := Option.map_eq_some_iff.mp hf
    simp

/-- The internal class's choice is one requester's transfer (R148). -/
theorem internalGrant_cases (h : s.internalGrant = some g) :
    s.statusRequest = some g ∨ s.commandRequest = some g ∨ s.placementRequest = some g ∨ s.flatGrant = some g
      ∨ s.sweepGrant = some g := by
  have horder : s.internalOrder = some g ∨ s.sweepGrant = some g := by
    unfold State.internalGrant at h
    split at h
    · exact .inr h
    · exact .inl h
  rcases horder with horder | hsweep
  · rcases orElse_eq_some horder with h | h
    · exact .inl h
    rcases orElse_eq_some h with h | h
    · exact .inr (.inl h)
    rcases orElse_eq_some h with h | h
    · exact .inr (.inr (.inl h))
    exact .inr (.inr (.inr (orElse_eq_some h)))
  · exact .inr (.inr (.inr (.inr hsweep)))

theorem internalGrant_placement (h : s.internalGrant = some g) (tag : Nat) (ho : g.1 = .placement tag) :
    s.placePresented = some tag := by
  rcases internalGrant_cases h with h | h | h | h | h
  · rw [statusRequest_owner h] at ho
    cases ho
  · rw [commandRequest_owner h] at ho
    cases ho
  · obtain ⟨n, hn, hown⟩ := placementRequest_owner h
    rw [hown] at ho
    rwa [Owner.placement.inj ho] at hn
  · obtain ⟨slot, hslot⟩ := flatGrant_owner h
    rw [hslot] at ho
    cases ho
  · have hsweep := sweepRequest_owner (sweepGrant_request h)
    rw [ho] at hsweep
    cases hsweep

end

theorem waitAfter_le (o : Owner) (s : State) : s.waitAfter o ≤ Config.sweepPatience := by
  unfold State.waitAfter
  split
  · exact Nat.zero_le _
  · split
    · exact Nat.min_le_left _ _
    · exact Nat.zero_le _

theorem grantForward_keeps {g : Owner × MemTransfer} {s : State} (hfree : s.lockState ≠ .held)
    (h : s.forwardGrant = some g) : KeepsInvariants s (s.grantForward g) := by
  have hturn : Quiet (s.grant g) { s.grant g with turn := .internal } := { attends := id }
  exact (grant_keeps (fun _ hheld => absurd hheld hfree) fun tag ho =>
    absurd ho (forwardGrant_not_placement h tag)).trans hturn.keeps

theorem grantInternal_keeps {g : Owner × MemTransfer} {s : State} (hfree : s.LockAgrees → s.lockState = .held → g.1 = .forward)
    (hplace : ∀ tag, g.1 = .placement tag → s.placePresented = some tag) : KeepsInvariants s (s.grantInternal g) := by
  have hturn : Quiet (s.grant g) { s.grant g with turn := .forward, sweepWait := s.waitAfter g.1 } :=
    { attends := id, sweepWait := le_max_of_le_right (waitAfter_le g.1 s) }
  exact (grant_keeps hfree hplace).trans hturn.keeps

/-- The LOCKED read granted with nothing in flight makes the lock state HELD (R151). -/
theorem grantLocked_keeps {s : State} (hstate : s.lockState = .draining) : KeepsInvariants s s.grantLocked := by
  unfold State.grantLocked
  split
  · next halone =>
    split
    · next x _ =>
      simp only [Bool.and_eq_true, List.isEmpty_iff, Bool.not_eq_true'] at halone
      obtain ⟨⟨hempty, hlead⟩, -⟩ := halone
      have hissue : KeepsInvariants s (s.issue .forward x) :=
        issue_keeps x (fun _ _ => rfl) fun tag ho => by cases ho
      exact
        { hissue with
          lock := by
            rintro ⟨hfree, -⟩
            refine ⟨fun hn => ?_, fun _ => ⟨hlead, fun f hf => ?_⟩⟩
            · rw [hfree hn] at hstate
              cases hstate
            · rw [show State.inFlight { s.grant (.forward, x) with lockState := .held }
                = s.inFlight ++ [{ owner := .forward, transfer := x, live := true }] from rfl, hempty] at hf
              obtain rfl := List.mem_singleton.mp hf
              rfl }
    · exact .refl s
  · exact .refl s

theorem arbitrate_keeps (s : State) : KeepsInvariants s s.arbitrate := by
  unfold State.arbitrate
  split
  · exact .refl s
  · split
    · next hlead =>
      split
      · next g hg =>
        refine grantInternal_keeps (fun hagree hheld => ?_) fun tag ho => ?_
        · rw [(hagree.2 hheld).1] at hlead
          cases hlead
        · rw [statusRequest_owner hg] at ho
          cases ho
      · exact .refl s
    · split
      · next hfree =>
        have hnot : s.lockState ≠ .held := by simp [hfree]
        unfold State.grantFree
        split
        · exact .refl s
        · next hf _ => exact grantForward_keeps hnot hf
        · next _ hi =>
          exact grantInternal_keeps (fun _ h => absurd h hnot) (internalGrant_placement hi)
        · next hf hi =>
          split
          · exact grantForward_keeps hnot hf
          · exact grantInternal_keeps (fun _ h => absurd h hnot) (internalGrant_placement hi)
      · next hdraining => exact grantLocked_keeps hdraining
      · split
        · exact grant_keeps (fun _ _ => rfl) fun tag ho => by cases ho
        · exact .refl s

end Sys2Proof.Machine
end

section
/-! The camera-side port and an accepted OPEN_EXPOSURE keep the invariants (R22 to R24, R100, R129 to R142). -/

namespace Sys2Proof.Machine

/-! ### The camera-side port (R129 to R142) -/

/-- The lock opens (R141). -/
theorem lockOpens_keeps (l : LockRecord) (s : State) :
    KeepsInvariants s { s with lock := some l, lockState := .draining } :=
  { KeepsInvariants.refl s with
    lock := fun _ => ⟨fun h => (by cases h), fun h => (by cases h)⟩ }

theorem handOn_keeps (t : Transfer) (s : State) : KeepsInvariants s (s.handOn t) := by
  have hforwarding : Quiet s { s with current := some { transfer := t, stage := .forwarding } } := { attends := id }
  unfold State.handOn
  dsimp only
  split
  · exact hforwarding.keeps.trans ((lockOpens_keeps _ _).trans (grantLocked_keeps rfl))
  · exact hforwarding.keeps

theorem forward_keeps (t : Transfer) (s : State) : KeepsInvariants s (s.forward t) := by
  unfold State.forward
  split
  · exact handOn_keeps t s
  · exact (hold_quiet s t _).keeps

theorem malformed_keeps (s : State) : KeepsInvariants s s.malformed :=
  (setFlag_quiet s _).keeps.trans (bump_quiet _ _).keeps

theorem blocked_keeps (s : State) : KeepsInvariants s s.blocked :=
  (setFlag_quiet s _).keeps.trans (bump_quiet _ _).keeps

theorem abandon_keeps (t : Transfer) (s : State) : KeepsInvariants s (s.abandon t) :=
  (endLock_quiet s).keeps.trans (answer_quiet _ t .fault).keeps

/-- A raw write taken with room in the intake buffer (R60, R133). -/
theorem takeRaw_keeps {s : State} (i : SegIdx) (t : Transfer) (hroom : s.intake.length < Config.intakeCapacity) :
    KeepsInvariants s (s.takeRaw i t) := by
  have hmoves := visitPixels_moves i (pixelsOf s.segs[i] t.start t.size t.data) s
  have hintake : (s.visitPixels i (pixelsOf s.segs[i] t.start t.size t.data)).1.intake = s.intake := by
    rw [hmoves.frame]
  have hslot (v : State) (sl : IntakeSlot) (n : Nat) (hv : v.intake = s.intake) :
      Quiet v { v with intake := v.intake ++ [sl], nextSlot := n } :=
    { attends := id
      intake := le_max_of_le_right (by rw [hv, List.length_append]; exact hroom) }
  exact (hmoves.keeps (visitPixels_ledger i _)).trans ((hslot _ _ _ hintake).keeps.trans
    ((answer_quiet _ t _).keeps.trans (settleIntake_quiet _).keeps))

theorem routeRaw_keeps (i : SegIdx) (t : Transfer) (s : State) : KeepsInvariants s (s.routeRaw i t) := by
  have hmalformed : KeepsInvariants s (s.malformed.answer t .fault) :=
    (malformed_keeps s).trans (answer_quiet _ t .fault).keeps
  unfold State.routeRaw
  split
  · exact forward_keeps t s
  split
  · exact hmalformed
  split
  · exact hmalformed
  split
  · exact (answer_quiet s t .split).keeps
  split
  · exact hmalformed
  split
  · next hroom => exact takeRaw_keeps i t hroom
  · exact (hold_quiet s t .intakeFull).keeps

theorem routeCell_keeps (k : StackSlot) (t : Transfer) (s : State) : KeepsInvariants s (s.routeCell k t) := by
  unfold State.routeCell
  split
  · split
    · split
      · exact forward_keeps t s
      · exact (answer_quiet s t .retry).keeps
    · split
      · exact forward_keeps t s
      · exact (hold_quiet s t _).keeps
    · exact forward_keeps t s
  · exact (blocked_keeps s).trans (answer_quiet _ t .fault).keeps

theorem routeOutput_keeps (k : StackSlot) (t : Transfer) (s : State) : KeepsInvariants s (s.routeOutput k t) := by
  unfold State.routeOutput
  split
  · split
    · split
      · exact forward_keeps t s
      · exact (answer_quiet s t .retry).keeps
    · exact (blocked_keeps s).trans (answer_quiet _ t .fault).keeps
  · exact forward_keeps t s

theorem acknowledge_keeps (w : BitVec 32) (s : State) : KeepsInvariants s (s.acknowledge w) := by
  have hwatch : KeepsInvariants s (if w.getLsbD Flag.watchHit.bit then s.clearWatchHits else s) := by
    split
    · unfold State.clearWatchHits
      exact Quiet.keeps { attends := id }
    · exact .refl s
  unfold State.acknowledge
  dsimp only
  split
  · exact hwatch.trans ((clearFlags_quiet _ _).keeps.trans (clearCounters_quiet _).keeps)
  · exact hwatch.trans (clearFlags_quiet _ _).keeps

theorem captureCommand_keeps (w : BitVec 32) (s : State) : KeepsInvariants s (s.captureCommand w) := by
  unfold State.captureCommand
  split
  · exact (setFlag_quiet s _).keeps.trans (bump_quiet _ _).keeps
  · split
    · exact Quiet.keeps { attends := id, engine := by simp [Engine.loading] }
    · exact endCommand_keeps s _ _ _ _

theorem routeControl_keeps (t : Transfer) (s : State) : KeepsInvariants s (s.routeControl t) := by
  unfold State.routeControl
  split
  · exact (answer_quiet s t .split).keeps
  split
  · exact (forward_keeps t s).trans (captureCommand_keeps _ _)
  split
  · exact (forward_keeps t s).trans (acknowledge_keeps _ _)
  · exact forward_keeps t s

theorem routeTables_keeps (t : Transfer) (s : State) : KeepsInvariants s (s.routeTables t) := by
  unfold State.routeTables
  split
  · exact (hold_quiet s t .command).keeps
  · exact forward_keeps t s

theorem routeAddress_keeps (t : Transfer) (s : State) : KeepsInvariants s (s.routeAddress t) := by
  unfold State.routeAddress
  split
  · exact routeRaw_keeps _ t s
  split
  · exact routeCell_keeps _ t s
  split
  · exact routeOutput_keeps _ t s
  split
  · exact routeControl_keeps t s
  split
  · exact routeTables_keeps t s
  · exact forward_keeps t s

theorem routeSequence_keeps (t : Transfer) (s : State) : KeepsInvariants s (s.routeSequence t) := by
  unfold State.routeSequence
  split
  · exact (malformed_keeps s).trans (abandon_keeps t _)
  split
  · exact (blocked_keeps s).trans (abandon_keeps t _)
  split
  · exact (blocked_keeps s).trans (abandon_keeps t _)
  · exact forward_keeps t s

theorem routeUnanswered_keeps (t : Transfer) (s : State) : KeepsInvariants s (s.routeUnanswered t) := by
  unfold State.routeUnanswered
  split
  · unfold State.routeLocked
    split
    · exact (answer_quiet s t .retry).keeps
    split
    · exact routeSequence_keeps t s
    · exact abandon_keeps t s
  · exact forward_keeps t s
  · exact (answer_quiet s t .fault).keeps
  · exact (answer_quiet s t .fault).keeps
  · exact routeAddress_keeps t s

theorem route_keeps (t : Transfer) (s : State) : KeepsInvariants s (s.route t) := by
  unfold State.route
  split
  · split
    · exact (answer_quiet s t _).keeps
    · exact routeUnanswered_keeps t s
  · exact routeUnanswered_keeps t s

theorem take_keeps (t : Transfer) (s : State) : KeepsInvariants s (s.take t) := by
  unfold State.take
  split
  · exact route_keeps t s
  · exact .refl s

/-! ### OPEN_EXPOSURE (R22 to R24, R100) -/

/-- A check passed: its condition fails, and so does every check after it. -/
theorem ite_some_eq_none_iff {α : Type} (c : Prop) [Decidable c] (a : α) (rest : Option α) :
    (if c then some a else rest) = none ↔ ¬ c ∧ rest = none := by
  by_cases h : c <;> simp [h]

/-- What the checks of R23 leave. -/
theorem openExposureCheck_eq_none {s : State} {id : Nat} {p : ExposureParams} {k : StackSlot}
    (hslot : slotOf p.slot = some k) (h : s.openExposureCheck id p = none) :
    s.takesExposure id ∧ (s.stack k).state = .openState ∧ p.segSet ≠ 0 := by
  unfold State.openExposureCheck at h
  simp only [hslot] at h
  obtain ⟨hid, h⟩ := (ite_some_eq_none_iff _ _ _).mp h
  obtain ⟨hroom, h⟩ := (ite_some_eq_none_iff _ _ _).mp h
  obtain ⟨hdup, h⟩ := (ite_some_eq_none_iff _ _ _).mp h
  obtain ⟨hopen, h⟩ := (ite_some_eq_none_iff _ _ _).mp h
  obtain ⟨-, h⟩ := (ite_some_eq_none_iff _ _ _).mp h
  obtain ⟨-, h⟩ := (ite_some_eq_none_iff _ _ _).mp h
  obtain ⟨-, h⟩ := (ite_some_eq_none_iff _ _ _).mp h
  obtain ⟨hset, -⟩ := (ite_some_eq_none_iff _ _ _).mp h
  refine ⟨⟨hid, Nat.lt_of_not_le hroom, ?_⟩, not_not.mp hopen, hset⟩
  rw [← exposure?_eq_none_iff]
  simpa using hdup

theorem newExposure_inOrder {id : Nat} {k : StackSlot} {p : ExposureParams} (hset : p.segSet ≠ 0) :
    (newExposure id k p).InOrder := by
  refine ⟨BitVec.zero_and, iff_of_false ?_ (Ne.symm hset), fun h => ?_, rfl⟩
  · simp [newExposure]
  · cases h

theorem nextAssignment_append_new (i : SegIdx) (q : List Exposure) (id : Nat) (k : StackSlot) (p : ExposureParams) :
    nextAssignment i (q ++ [newExposure id k p])
      = (nextAssignment i q <|> if p.segSet.getLsbD i.1 then some id else none) := by
  unfold nextAssignment
  rw [List.find?_append]
  cases q.find? _ with
  | some e => rfl
  | none =>
    have hnew : ((newExposure id k p).segSet.getLsbD i.1 && !(newExposure id k p).ended.getLsbD i.1)
        = p.segSet.getLsbD i.1 := by simp [newExposure]
    rw [List.find?_cons, hnew]
    cases p.segSet.getLsbD i.1 <;> rfl

theorem withOpened_ledger {s : State} {id : Nat} {k : StackSlot} {p : ExposureParams} (htakes : s.takesExposure id)
    (hset : p.segSet ≠ 0) (hload : s.engine.loading = false) (h : s.LedgerBalances) :
    (s.withOpened id k p).LedgerBalances := by
  have hqueue : (s.withOpened id k p).queue = s.queue ++ [newExposure id k p] := by rw [withOpened_frame]
  have hretired : (s.withOpened id k p).retired = s.retired := by
    rw [withOpened_frame]
    simp
  have hengine : (s.withOpened id k p).engine = s.engine := by
    rw [withOpened_frame]
    simp
  obtain ⟨-, -, hfresh⟩ := htakes
  obtain ⟨hnd, horder, hbalanced, hassigned, -⟩ := h
  refine ⟨?_, ?_, hretired ▸ hbalanced, fun i => ?_, fun hl => ?_⟩
  · rw [hqueue, List.map_append, List.nodup_append]
    refine ⟨hnd, List.nodup_singleton _, fun a ha b hb => ?_⟩
    obtain ⟨e, he, rfl⟩ := List.mem_map.mp ha
    obtain rfl := List.mem_singleton.mp hb
    exact hfresh e he
  · rw [hqueue]
    intro e he
    rcases List.mem_append.mp he with he | he
    · exact horder e he
    · obtain rfl := List.mem_singleton.mp he
      exact newExposure_inOrder hset
  · rw [withOpened_progress, hqueue, nextAssignment_append_new, ← hassigned i]
    by_cases hidle : s.progress[i].state = .idle
    · by_cases hi : p.segSet.getLsbD i.1 = true
      · rw [if_pos ⟨hi, hidle⟩, if_pos hi, hidle]
        rfl
      · rw [if_neg fun hc => hi hc.1, if_neg hi, hidle]
        rfl
    · rw [if_neg fun hc => hidle hc.2]
      cases hp : s.progress[i].state with
      | idle => exact absurd hp hidle
      | _ => rfl
  · rw [hengine, hload] at hl
    cases hl

/-- An exposure accepted: the queue, one stack and the progress records, whatever these are. -/
theorem withOpened_eq (id : Nat) (k : StackSlot) (p : ExposureParams) (s : State) :
    ∃ progress, s.withOpened id k p = { s.setStack k { s.stack k with refCount := (s.stack k).refCount + 1 } with
      queue := s.queue ++ [newExposure id k p], progress := progress } :=
  ⟨_, withOpened_frame id k p s⟩

theorem withOpened_references {s : State} {id : Nat} {k : StackSlot} {p : ExposureParams}
    (hopen : (s.stack k).state = .openState) (h : s.ReferencesAgree) : (s.withOpened id k p).ReferencesAgree := by
  obtain ⟨hcount, hstate, hwork⟩ := h
  have hstack (j : StackSlot) : (s.withOpened id k p).stack j
      = if j = k then { s.stack j with refCount := (s.stack j).refCount + 1 } else s.stack j := by
    obtain ⟨progress, hframe⟩ := withOpened_eq id k p s
    rw [hframe]
    cases j <;> cases k <;> rfl
  have hqueue : (s.withOpened id k p).queue = s.queue ++ [newExposure id k p] := by rw [withOpened_frame]
  have hsweep : (s.withOpened id k p).sweep = s.sweep := by
    rw [withOpened_frame]
    simp
  refine ⟨fun j => ?_, fun j hj => ?_, fun w hw => ?_⟩
  · rw [hstack, hqueue, List.filter_append, List.length_append, ← hcount j]
    by_cases hj : j = k
    · simp [hj, newExposure]
    · simp [hj, newExposure, Ne.symm hj]
  · rw [hstack] at hj ⊢
    by_cases hjk : j = k
    · rw [if_pos hjk]
      exact hjk ▸ hopen
    · rw [if_neg hjk] at hj ⊢
      exact hstate j hj
  · rw [hstack]
    split <;> exact hwork w (hsweep ▸ hw)

/-- An exposure accepted (R24). -/
theorem openExposure_keeps {s : State} {id : Nat} {k : StackSlot} {p : ExposureParams} (hslot : slotOf p.slot = some k)
    (hcheck : s.openExposureCheck id p = none) (hload : s.engine.loading = false) :
    KeepsInvariants s (s.openExposure id k p) := by
  obtain ⟨htakes, hopen, hset⟩ := openExposureCheck_eq_none hslot hcheck
  obtain ⟨progress, hframe⟩ := withOpened_eq id k p s
  have hopened : KeepsInvariants s (s.withOpened id k p) :=
    { pending := by
        rw [withOpened_frame]
        simp
      attends := by
        rw [hframe]
        cases k <;> exact fun h => h
      lock := by
        rw [hframe]
        cases k <;> exact fun h => h
      capacity := by
        rintro ⟨-, hrest⟩
        obtain ⟨-, hroom, -⟩ := htakes
        rw [hframe]
        refine ⟨?_, ?_⟩
        · show (s.queue ++ [newExposure id k p]).length ≤ Config.queueCapacity
          rw [List.length_append]
          exact hroom
        · cases k <;> exact hrest
      ledger := withOpened_ledger htakes hset hload
      references := withOpened_references hopen
      order := by
        rw [hframe]
        cases k <;> exact fun h => h }
  exact hopened.trans (request_quiet _).keeps

end Sys2Proof.Machine
end

section
/-! The command engine, the resets and every command keep the invariants, and so does every step (R157 to R165, R172).
Settles O54 to O60 and O2. -/

namespace Sys2Proof.Machine

/-! ### The stack commands (R101 to R103, R108, R114, R115) -/

/-- A stack that is not OPEN has no queued exposure naming it (R100). -/
theorem refCount_of_not_open {s : State} {k : StackSlot} (hk : (s.stack k).state ≠ .openState) (h : s.ReferencesAgree) :
    (s.stack k).refCount = 0 := by
  obtain ⟨-, hopen, -⟩ := h
  by_contra hne
  exact hk (hopen k (Nat.pos_of_ne_zero hne))

theorem runOpenStack_keeps (c : CurrentCommand) (p : StackParams) (s : State) : KeepsInvariants s (s.runOpenStack c p) := by
  unfold State.runOpenStack
  split
  · exact finish_keeps s c _ _
  split
  · exact finish_keeps s c _ _
  · next k _ _ hcheck =>
    obtain ⟨hstate, -⟩ := (ite_some_eq_none_iff _ _ _).mp hcheck
    have hopen : (s.stack k).state ≠ .openState := fun h => hstate (by simp [h])
    have hopened : KeepsInvariants s (s.openStack k p) := beginSweep_keeps (refCount_of_not_open hopen) rfl rfl
    exact hopened.trans (finish_keeps _ c _ _)

theorem runRenderStack_keeps (c : CurrentCommand) (s : State) : KeepsInvariants s (s.runRenderStack c) := by
  unfold State.runRenderStack
  split
  · exact finish_keeps s c _ _
  split
  · exact finish_keeps s c _ _
  · next k _ _ hcheck =>
    obtain ⟨-, hcheck⟩ := (ite_some_eq_none_iff _ _ _).mp hcheck
    obtain ⟨hused, -⟩ := (ite_some_eq_none_iff _ _ _).mp hcheck
    have hzero : (s.stack k).refCount = 0 := Nat.eq_zero_of_not_pos hused
    have hrendering : KeepsInvariants s (s.renderStack k) := beginSweep_keeps (fun _ => hzero) hzero rfl
    exact hrendering.trans (finish_keeps _ c _ _)

/-- A stack that no queued exposure names is emptied, and the engine works on no row of it (R114). -/
theorem emptied_keeps {s : State} {k : StackSlot} (hzero : (s.stack k).refCount = 0) {sweep : Option SweepWork}
    (hsweep : ∀ w, sweep = some w → s.sweep = some w ∧ w.slot ≠ k) :
    KeepsInvariants s { s.emptied k with sweep := sweep, requested := true } := by
  have hmove : StacksMove s { s.emptied k with sweep := sweep, requested := true } :=
    (setStack_stacks k _ s).trans ⟨rfl, fun h => h⟩
  refine hmove.keeps fun h => ?_
  obtain ⟨hcount, hopen⟩ := setStack_counts (r := { s.stack k with state := .empty }) hzero hzero
    (countsAgree_of_references h)
  obtain ⟨-, -, hwork⟩ := h
  refine ⟨hcount, hopen, fun w hw => ?_⟩
  obtain ⟨hs, hslot⟩ := hsweep w hw
  show ((s.setStack k { s.stack k with state := .empty }).stack w.slot).sweeping = true
  rw [stack_setStack, if_neg hslot]
  exact hwork w hs

theorem discard_keeps {s : State} {k : StackSlot} (c : CurrentCommand) (hzero : (s.stack k).refCount = 0) :
    KeepsInvariants s (s.discard c k) := by
  have hnone : ∀ w, (none : Option SweepWork) = some w → s.sweep = some w ∧ w.slot ≠ k := fun w hw => by cases hw
  unfold State.discard
  dsimp only
  split
  · have hletGo : Quiet { s.emptied k with sweep := none, requested := true } { s.emptied k with
        sweep := none, requested := true
        inFlight := s.inFlight.map fun f => if f.owner.sweepOf k then { f with live := false } else f
        engine := .executing c (.discarding (s.stack k).state.number) } :=
      { attends := id
        inFlight := fun f hf => by
          obtain ⟨g, hg, rfl⟩ := List.mem_map.mp hf
          refine ⟨g, by simp [State.emptied, hg], ?_⟩
          split
          · exact ⟨rfl, fun h => (by cases h)⟩
          · exact ⟨rfl, id⟩
        engine := by simp [Engine.loading] }
    refine (emptied_keeps hzero hnone).trans ?_
    have := hletGo.keeps
    simpa [State.emptied, State.request] using this
  · split
    · have hrow : KeepsInvariants s ((s.emptied k).request.takeUp k.other) :=
        (emptied_keeps hzero hnone).trans (takeUp_keeps k.other _)
      have hwait : Quiet ((s.emptied k).request.takeUp k.other)
          { (s.emptied k).request.takeUp k.other with sweepWait := 0 } := { attends := id }
      exact hrow.trans (hwait.keeps.trans (finish_keeps _ c _ _))
    · next helse =>
      have hother : ∀ w, s.sweep = some w → s.sweep = some w ∧ w.slot ≠ k := fun w hw =>
        ⟨hw, fun hk => helse (by simp [hw, hk])⟩
      have hsame : (s.emptied k).request = { s.emptied k with sweep := s.sweep, requested := true } := by
        simp [State.request, State.emptied]
      exact (hsame ▸ emptied_keeps hzero hother).trans (finish_keeps _ c _ _)

theorem runDiscardStack_keeps (c : CurrentCommand) (s : State) : KeepsInvariants s (s.runDiscardStack c) := by
  unfold State.runDiscardStack
  split
  · exact finish_keeps s c _ _
  split
  · exact finish_keeps s c _ _
  · next hunused => exact discard_keeps c (Nat.eq_zero_of_not_pos hunused)

/-! ### The commands of the exposures and of the watch unit (R23, R24, R27, R121, R122) -/

theorem runOpenExposure_keeps {s : State} (c : CurrentCommand) (p : ExposureParams) (hload : s.engine.loading = false) :
    KeepsInvariants s (s.runOpenExposure c p) := by
  unfold State.runOpenExposure
  split
  · exact finish_keeps s c _ _
  · next hcheck hslot => exact (openExposure_keeps hslot hcheck hload).trans (finish_keeps _ c _ _)
  · exact .refl s

theorem cutExposure_keeps {s : State} {e : Exposure} (reason : CutReason) (he : e ∈ s.queue)
    (hopen : e.state = .queued ∨ e.state = .reading) : KeepsInvariants s (s.cutExposure e.id reason) :=
  (cutExposure_moves e.id reason s).keeps (cutExposure_ledger reason he hopen)

theorem runCloseExposure_keeps (c : CurrentCommand) (s : State) : KeepsInvariants s (s.runCloseExposure c) := by
  unfold State.runCloseExposure
  split
  · exact finish_keeps s c _ _
  · next e he =>
    obtain ⟨hmem, hid⟩ := mem_of_exposure? he
    split
    · exact finish_keeps s c _ _
    · next hopen =>
      have hstate : e.state = .queued ∨ e.state = .reading := by
        cases hs : e.state <;> simp [hs] at hopen ⊢
      exact (hid ▸ cutExposure_keeps .closed hmem hstate).trans (finish_keeps _ c _ _)

theorem runSetWatch_keeps (c : CurrentCommand) (p : WatchParams) (s : State) : KeepsInvariants s (s.runSetWatch c p) := by
  have hreplaced : Quiet s (s.replaceWatch c.arg.toNat p) := by
    unfold State.replaceWatch
    exact { attends := id }
  unfold State.runSetWatch
  split
  · exact finish_keeps s c _ _
  · exact hreplaced.keeps.trans (finish_keeps _ c _ _)

/-! ### LOAD_PLAN (R5 to R9) -/

/-- The engine may go to any phase, but begin to load a plan with no exposure queued only (R5). -/
theorem engine_keeps {s : State} {e : Engine} (h : e.loading = true → s.engine.loading = true ∨ s.queue = []) :
    KeepsInvariants s { s with engine := e } :=
  Quiet.keeps { attends := id, engine := h }

theorem runLoadPlan_keeps (c : CurrentCommand) (s : State) : KeepsInvariants s (s.runLoadPlan c) := by
  unfold State.runLoadPlan
  split
  · next hempty => exact engine_keeps fun _ => .inr (List.isEmpty_iff.mp hempty)
  · exact finish_keeps s c _ _

/-- The plan cleared while one is loaded: no exposure is queued, so every record is IDLE (R5, R7, R48). -/
theorem clearPlan_keeps {s : State} (hload : s.engine.loading = true) : KeepsInvariants s s.clearPlan := by
  unfold State.clearPlan
  generalize Vector.ofFn _ = segs
  refine { KeepsInvariants.refl s with ledger := ?_ }
  rintro ⟨hnd, horder, hretired, -, hempty⟩
  refine ⟨hnd, horder, hretired, fun i => ?_, hempty⟩
  rw [show State.queue { s with segs := segs, progress := Vector.replicate 128 Progress.empty } = [] from hempty hload]
  simp [Progress.empty, ProgressState.exposure, nextAssignment]

theorem clearPlan_engine (s : State) : s.clearPlan.engine = s.engine := by
  unfold State.clearPlan
  generalize Vector.ofFn _ = segs
  rfl

theorem startPass2_keeps {s : State} (c : CurrentCommand) (hload : s.engine.loading = true) :
    KeepsInvariants s (s.startPass2 c) := by
  unfold State.startPass2
  refine (clearPlan_keeps hload).trans (engine_keeps fun _ => .inl ?_)
  rw [clearPlan_engine, hload]

theorem checkRecord_keeps {s : State} (c : CurrentCommand) (i : SegIdx) (r : SegRecord) (windows : List (Nat × Nat))
    (hload : s.engine.loading = true) : KeepsInvariants s (s.checkRecord c i r windows) := by
  unfold State.checkRecord
  split
  · split
    · exact startPass2_keeps c hload
    · exact engine_keeps fun _ => .inl hload
  · exact finish_keeps s c _ _

theorem installRecord_engine (i : SegIdx) (r : SegRecord) (s : State) : (s.installRecord i r).engine = s.engine := by
  unfold State.installRecord
  split <;> simp

theorem installRecord_keeps (i : SegIdx) (r : SegRecord) (s : State) : KeepsInvariants s (s.installRecord i r) := by
  unfold State.installRecord
  split
  · have hsegs : Quiet s { s with segs := s.segs.set i.1 r i.2 } := { attends := id }
    exact hsegs.keeps.trans ((setProgress_moves i _ _).keeps (setProgress_ledger rfl))
  · exact .refl s

/-! ### The resets (R143, R155, R164, R165, R175) -/

theorem assertReset_keeps (s : State) : KeepsInvariants s s.assertReset := by
  unfold State.assertReset
  exact Quiet.keeps
    { attends := id
      inFlight := fun f hf => absurd hf List.not_mem_nil }

/-- Every block holds its pin-reset value, but for the transfers in flight, the engine, the arbiter's turn and count and the
model's own fields (R155, R164, R175). -/
def State.AtPinReset (base level : BitVec 3) (u : State) : Prop :=
  u = { State.pinReset base level with
    resetAsserted := u.resetAsserted, current := u.current, inFlight := u.inFlight, initialLead := u.initialLead
    engine := u.engine, last := u.last, turn := u.turn, sweepWait := u.sweepWait, rewriteCount := u.rewriteCount
    rewrite := u.rewrite, answers := u.answers, nextSlot := u.nextSlot, nextEntry := u.nextEntry, pending := u.pending }

section
variable {u : State} {base level : BitVec 3}

theorem atPinReset_attends (h : u.AtPinReset base level) : u.Attends := by
  rw [State.Attends, h]
  exact (by decide : false = attention 0 0)

theorem atPinReset_lockAgrees (h : u.AtPinReset base level) : u.LockAgrees := by
  rw [h]
  exact ⟨fun _ => rfl, fun hheld => by cases hheld⟩

theorem atPinReset_withinCapacity (h : u.AtPinReset base level) (hwait : u.sweepWait ≤ Config.sweepPatience) :
    u.WithinCapacity := by
  rw [h]
  exact ⟨Nat.zero_le _, Nat.zero_le _, Nat.zero_le _, Nat.zero_le _, hwait⟩

theorem atPinReset_ledger (h : u.AtPinReset base level) : u.LedgerBalances := by
  have hidle (i : SegIdx) : (Vector.replicate 128 Progress.empty)[i].state.exposure = none := by
    simp [Progress.empty, ProgressState.exposure]
  rw [h]
  exact ⟨List.nodup_nil, fun e he => absurd he List.not_mem_nil, fun r hr => absurd hr List.not_mem_nil, hidle,
    fun _ => rfl⟩

theorem atPinReset_references (h : u.AtPinReset base level) : u.ReferencesAgree := by
  rw [h]
  refine ⟨fun k => ?_, fun k hk => ?_, fun w hw => by cases hw⟩
  · cases k <;> rfl
  · cases k <;> cases hk

theorem atPinReset_order (h : u.AtPinReset base level)
    (hdead : ∀ f ∈ u.inFlight, ∀ tag, f.owner = .placement tag → f.live = false) : u.PlacementInOrder := by
  have hnothing (tag : Nat) : ¬ u.placementUnderWay tag := by
    rintro (hp | ⟨f, hf, howner, hlive⟩)
    · rw [h] at hp
      cases hp
    · rw [hdead f hf tag howner] at hlive
      cases hlive
  have hentries : u.entries = [] := by
    rw [h]
    rfl
  rw [State.PlacementInOrder, hentries]
  exact ⟨.nil, fun e he => absurd he List.not_mem_nil, .nil, fun tag h => absurd h (hnothing tag),
    fun e he => absurd he List.not_mem_nil⟩

theorem keeps_pinReset {s : State} (hpending : u.pending = s.pending) (h : u.AtPinReset base level)
    (hdead : ∀ f ∈ u.inFlight, ∀ tag, f.owner = .placement tag → f.live = false)
    (hwait : s.sweepWait ≤ Config.sweepPatience → u.sweepWait ≤ Config.sweepPatience) : KeepsInvariants s u where
  pending := hpending
  attends _ := atPinReset_attends h
  lock _ := atPinReset_lockAgrees h
  capacity := by
    rintro ⟨-, -, -, -, hle⟩
    exact atPinReset_withinCapacity h (hwait hle)
  ledger _ := atPinReset_ledger h
  references _ := atPinReset_references h
  order _ := atPinReset_order h hdead

end

theorem restart_keeps (c : CurrentCommand) (s : State) : KeepsInvariants s (s.restart c) := by
  refine keeps_pinReset (base := s.base) (level := s.level) rfl rfl (fun f hf tag howner => ?_) fun h => ?_
  · obtain ⟨g, -, rfl⟩ := List.mem_map.mp hf
    unfold InFlight.letGo at howner ⊢
    split at howner
    · next hforward =>
      rw [hforward] at howner
      cases howner
    · next hown => rw [if_neg hown]
  · show (if s.sweepRequest.isSome then 0 else s.sweepWait) ≤ Config.sweepPatience
    split
    · exact Nat.zero_le _
    · exact h

theorem released_keeps (base level : BitVec 3) (s : State) :
    KeepsInvariants s { State.released base level with answers := s.answers, pending := s.pending } :=
  keeps_pinReset (base := base) (level := level) rfl rfl (fun _ hf => absurd hf List.not_mem_nil) fun _ => Nat.zero_le _

theorem endRestart_keeps (c : CurrentCommand) (s : State) : KeepsInvariants s (s.endRestart c) := by
  have hport : Quiet s { s with turn := .forward, sweepWait := 0, lockState := .free } :=
    { attends := id, lock := .inl rfl }
  have hinitial (v : State) (hfree : v.lockState = .free) : Quiet v
      { v with mark := false, requested := false, retirements := 0, initialLead := true }.startRewrite :=
    { attends := id, lock := .inl hfree }
  exact hport.keeps.trans ((finish_keeps _ c _ _).trans (hinitial _ (by simp)).keeps)

/-! ### The parameters read (R158) -/

theorem handOver_keeps {s : State} (c : CurrentCommand) (b : Nat) (hload : s.engine.loading = false) :
    KeepsInvariants s (s.handOver c b) := by
  unfold State.handOver
  split
  · exact runLoadPlan_keeps c s
  · exact runOpenStack_keeps c _ s
  · exact runRenderStack_keeps c s
  · exact runDiscardStack_keeps c s
  · exact runOpenExposure_keeps c _ hload
  · exact runCloseExposure_keeps c s
  · exact runSetWatch_keeps c _ s
  · exact (replaceEnables_quiet s _).keeps.trans (finish_keeps _ c _ _)
  · exact finish_keeps s c _ _
  · exact restart_keeps c s

/-! ### The steps of the part (R172) -/

theorem act_keeps {f : State → State} {s u : State} (hf : KeepsInvariants s (f s)) (h : act f s = .next u) :
    KeepsInvariants s u := by
  obtain rfl : (if s.resetAsserted then s else (f s).settleRequests) = u := by
    rw [act_next] at h
    injection h
  split
  · exact .refl s
  · exact hf.trans (settleRequests_quiet _).keeps

section
variable {s u : State}

theorem parameterReadDone_keeps (result : Termination) (h : execParameterReadDone result s = .next u) :
    KeepsInvariants s u := by
  refine act_keeps ?_ h
  split
  · next c first heng _ =>
    have hlanded := (land_quiet s fun f => f.owner == .command).keeps
    dsimp only
    split
    · exact hlanded.trans ((memoryFault_keeps _).trans (finish_keeps _ c _ _))
    · exact hlanded.trans (engine_keeps (by simp [Engine.loading]))
    · exact hlanded.trans (handOver_keeps c _ (by simp [heng, Engine.loading]))
  · exact .refl s

theorem planCheckReadDone_keeps (result : Termination) (h : execPlanCheckReadDone result s = .next u) :
    KeepsInvariants s u := by
  refine act_keeps ?_ h
  split
  · next c i first windows heng _ =>
    have hlanded := (land_quiet s fun f => f.owner == .command).keeps
    have hload : (s.land fun f => f.owner == .command).engine.loading = true := by simp [heng, Engine.loading]
    dsimp only
    split
    · exact hlanded.trans ((memoryFault_keeps _).trans (finish_keeps _ c _ _))
    · exact hlanded.trans (engine_keeps fun _ => .inl hload)
    · exact hlanded.trans (checkRecord_keeps c i _ windows hload)
  · exact .refl s

theorem planInstallReadDone_keeps (result : Termination) (h : execPlanInstallReadDone result s = .next u) :
    KeepsInvariants s u := by
  refine act_keeps ?_ h
  split
  · next c i first heng _ =>
    have hlanded := (land_quiet s fun f => f.owner == .command).keeps
    have hload : (s.land fun f => f.owner == .command).engine.loading = true := by simp [heng, Engine.loading]
    dsimp only
    split
    · exact hlanded.trans ((clearPlan_keeps hload).trans ((memoryFault_keeps _).trans (finish_keeps _ c _ _)))
    · exact hlanded.trans (engine_keeps fun _ => .inl hload)
    · split
      · exact hlanded.trans ((installRecord_keeps i _ _).trans (finish_keeps _ c _ _))
      · refine hlanded.trans ((installRecord_keeps i _ _).trans (engine_keeps fun _ => .inl ?_))
        rw [installRecord_engine, hload]
  · exact .refl s

theorem stallTimerExpiry_keeps (id : BitVec 16) (h : execStallTimerExpiry id s = .next u) : KeepsInvariants s u := by
  refine act_keeps ?_ h
  split
  · next e he =>
    split
    · next hdue =>
      obtain ⟨hmem, hid⟩ := mem_of_exposure? he
      have hread : e.state = .reading := by
        simp only [Exposure.expiryDue, Bool.and_eq_true, beq_iff_eq] at hdue
        exact hdue.1
      exact hid ▸ cutExposure_keeps .stalled hmem (.inr hread)
    · exact .refl s
  · exact .refl s

theorem placementReadDone_keeps (entry : Nat) (result : Termination) (h : execPlacementReadDone entry result s = .next u) :
    KeepsInvariants s u := by
  refine act_keeps ?_ h
  split
  · exact .refl s
  · next f hf =>
    have hlanded := land_quiet s (InFlight.placementRead entry)
    dsimp only
    split
    · next e line hlive he =>
      have hfound : f ∈ s.inFlight := List.mem_of_find?_eq_some hf
      have howner : f.owner = .placement entry := by
        have := List.find?_some hf
        simp only [InFlight.placementRead, Bool.and_eq_true, beq_iff_eq] at this
        exact this.1
      have hwriting := writingEntry_keeps hfound howner hlive (applyLanes e.lanes line).1 (applyLanes e.lanes line).2
      have hcomm : KeepsInvariants s ((s.land (InFlight.placementRead entry)).updateEntry entry fun e' =>
          { e' with state := .writing (applyLanes e.lanes line).1 (applyLanes e.lanes line).2 }) :=
        hwriting.trans (land_quiet _ (InFlight.placementRead entry)).keeps
      exact hcomm.trans (presentWrite_keeps _)
    · exact hlanded.keeps.trans (loseEntry_keeps _ _)
    · exact hlanded.keeps
  
theorem placementWriteDone_keeps (entry : Nat) (result : Termination)
    (h : execPlacementWriteDone entry result s = .next u) : KeepsInvariants s u := by
  refine act_keeps ?_ h
  split
  · exact .refl s
  · have hlanded := (land_quiet s (InFlight.placementWrite entry)).keeps
    dsimp only
    split
    · exact hlanded.trans (completeEntry_keeps entry _ _)
    · exact hlanded.trans (loseEntry_keeps _ _)
    · exact hlanded

theorem sweepLetGo_keeps (s : State) : KeepsInvariants s s.sweepLetGo := by
  have hrow : KeepsInvariants s (if s.sweep.isNone then s.takeUp .zero else s) := by
    split
    · exact takeUp_keeps .zero s
    · exact .refl s
  unfold State.sweepLetGo
  dsimp only
  split
  · exact hrow.trans (finish_keeps _ _ _ _)
  · exact hrow

theorem afterRenderRead_keeps {w : SweepWork} {s : State} (hw : s.sweep = some w) (pixels : Option Nat) :
    KeepsInvariants s (s.afterRenderRead w pixels) := by
  have hstep (step : SweepStep) : Quiet s { s with sweep := some { w with step := step } } :=
    { attends := id
      sweep := fun v hv => ⟨w, hw, by rw [← Option.some.inj hv]⟩ }
  unfold State.afterRenderRead
  split
  · exact (hstep _).keeps
  · exact (hstep _).keeps
  · exact .refl s

theorem clearWriteDone_keeps (result : Termination) (h : execClearWriteDone result s = .next u) : KeepsInvariants s u := by
  refine act_keeps ?_ h
  split
  · exact .refl s
  · have hlanded := (land_quiet s fun f => f.owner.isClear).keeps
    dsimp only
    split
    · next hw => exact hlanded.trans (nextLine_keeps hw _ _)
    · next hw => exact hlanded.trans (clearFault_keeps hw)
    · exact hlanded.trans (sweepLetGo_keeps _)

theorem renderReadDone_keeps (result : Termination) (h : execRenderReadDone result s = .next u) : KeepsInvariants s u := by
  refine act_keeps ?_ h
  split
  · exact .refl s
  · have hlanded := (land_quiet s fun f => f.owner.isRenderRead).keeps
    dsimp only
    split
    · next hw => exact hlanded.trans (afterRenderRead_keeps hw _)
    · next hw => exact hlanded.trans ((memoryFault_keeps _).trans (afterRenderRead_keeps (by simpa using hw) _))
    · exact hlanded.trans (sweepLetGo_keeps _)

theorem renderWriteDone_keeps (result : Termination) (h : execRenderWriteDone result s = .next u) :
    KeepsInvariants s u := by
  refine act_keeps ?_ h
  split
  · exact .refl s
  · have hlanded := (land_quiet s fun f => f.owner.isRenderWrite).keeps
    dsimp only
    split
    · next hw => exact hlanded.trans (nextLine_keeps hw _ _)
    · next hw => exact hlanded.trans ((memoryFault_keeps _).trans (nextLine_keeps (by simpa using hw) _ _))
    · exact hlanded.trans (sweepLetGo_keeps _)

theorem statusWriteDone_keeps (result : Termination) (h : execStatusWriteDone result s = .next u) :
    KeepsInvariants s u := by
  refine act_keeps ?_ h
  split
  · exact .refl s
  · have hlanded := (land_quiet s fun f => f.owner == .status).keeps
    dsimp only
    split
    · split
      · exact hlanded.trans (endRewrite_quiet _).keeps
      · exact hlanded.trans (Quiet.keeps { attends := id })
    · exact hlanded.trans ((endRewrite_quiet _).keeps.trans ((setFlag_quiet _ _).keeps.trans (bump_quiet _ _).keeps))
    · exact hlanded

theorem keepRawCopyDone_keeps (slot : Nat) (result : Termination) (h : execKeepRawCopyDone slot result s = .next u) :
    KeepsInvariants s u := by
  refine act_keeps ?_ h
  split
  · exact .refl s
  · have hlanded := (land_quiet s fun f => f.owner == .copy slot).keeps
    dsimp only
    split
    · exact hlanded.trans (memoryFault_keeps _)
    · exact hlanded

theorem flatReadDone_keeps (slot addr : Nat) (result : Termination) (h : execFlatReadDone slot addr result s = .next u) :
    KeepsInvariants s u := by
  refine act_keeps ?_ h
  split
  · exact .refl s
  · have hlanded := (land_quiet s fun f => f.owner == .flat slot && f.transfer.addr == addr).keeps
    dsimp only
    split
    · exact hlanded
    · exact hlanded.trans (updateSlot_quiet _ slot _).keeps
    · exact hlanded.trans ((updateSlot_quiet _ slot _).keeps.trans (memoryFault_keeps _))

theorem intakeHoldRelease_keeps (h : execIntakeHoldRelease s = .next u) : KeepsInvariants s u := by
  refine act_keeps ?_ h
  split
  · split
    · have hfree : Quiet s { s with current := none } := { attends := id }
      exact hfree.keeps.trans (route_keeps _ _)
    · exact .refl s
  · exact .refl s

theorem commandHoldRelease_keeps (h : execCommandHoldRelease s = .next u) : KeepsInvariants s u := by
  refine act_keeps ?_ h
  split
  · split
    · exact .refl s
    · exact forward_keeps _ s
  · exact .refl s

theorem placementHoldRelease_keeps (h : execPlacementHoldRelease s = .next u) : KeepsInvariants s u := by
  refine act_keeps ?_ h
  split
  · split
    · exact .refl s
    · exact handOn_keeps _ s
  · exact .refl s

theorem copyHoldRelease_keeps (h : execCopyHoldRelease s = .next u) : KeepsInvariants s u := by
  refine act_keeps ?_ h
  split
  · split
    · exact .refl s
    · exact handOn_keeps _ s
  · exact .refl s

theorem forwardTermination_keeps (result : Termination) (h : execForwardTermination result s = .next u) :
    KeepsInvariants s u := by
  refine act_keeps ?_ h
  split
  · next t _ _ =>
    have hanswered := (land_quiet s fun f => f.owner == .forward).keeps.trans (answer_quiet _ t (relayed t result)).keeps
    dsimp only
    split
    · exact hanswered.trans (endLock_quiet _).keeps
    · exact hanswered
  · exact .refl s

theorem placementEntryStart_keeps (h : execPlacementEntryStart s = .next u) : KeepsInvariants s u := by
  refine act_keeps ?_ h
  split
  · next he => exact startEntry_keeps he
  · exact .refl s

theorem ackClearFlags_keeps {initiator : BitVec 3} {select : BitVec 31} (h : execAckClearFlags initiator select s = .next u) :
    KeepsInvariants s u :=
  act_keeps (f := fun s => s.take (s.controlWrite initiator ackWordOffset (ackWord false select))) (take_keeps _ s) h

theorem ackClearCounters_keeps {initiator : BitVec 3} {select : BitVec 31}
    (h : execAckClearCounters initiator select s = .next u) : KeepsInvariants s u :=
  act_keeps (f := fun s => s.take (s.controlWrite initiator ackWordOffset (ackWord true select))) (take_keeps _ s) h

theorem calibratePixel_keeps (h : execCalibratePixel s = .next u) : KeepsInvariants s u :=
  act_keeps ((settleIntake_quiet s).keeps.trans (calibrate_keeps _)) h

theorem arbiterGrant_keeps (h : execArbiterGrant s = .next u) : KeepsInvariants s u := act_keeps (arbitrate_keeps s) h

theorem restartEnd_keeps (h : execRestartEnd s = .next u) : KeepsInvariants s u := by
  refine act_keeps ?_ h
  split
  · split
    · exact endRestart_keeps _ s
    · exact .refl s
  · exact .refl s

/-- Every command keeps the invariants and the queue of waiting commands. -/
theorem exec_keeps (c : Instr) (h : exec c s = .next u) : KeepsInvariants s u := by
  cases c with
  | resetAssert =>
    obtain rfl : (if s.resetAsserted then s else s.assertReset) = u := by injection h
    split
    · exact .refl s
    · exact assertReset_keeps s
  | resetRelease base level =>
    obtain rfl : (if s.resetAsserted then { State.released base level with answers := s.answers, pending := s.pending }
      else s) = u := by injection h
    split
    · exact released_keeps base level s
    · exact .refl s
  | intakeHoldRelease => exact intakeHoldRelease_keeps h
  | commandHoldRelease => exact commandHoldRelease_keeps h
  | placementHoldRelease => exact placementHoldRelease_keeps h
  | copyHoldRelease => exact copyHoldRelease_keeps h
  | forwardTermination result => exact forwardTermination_keeps result h
  | parameterReadDone result => exact parameterReadDone_keeps result h
  | planCheckReadDone result => exact planCheckReadDone_keeps result h
  | planInstallReadDone result => exact planInstallReadDone_keeps result h
  | restartEnd => exact restartEnd_keeps h
  | stallTimerExpiry id => exact stallTimerExpiry_keeps id h
  | arbiterGrant => exact arbiterGrant_keeps h
  | keepRawCopyDone slot result => exact keepRawCopyDone_keeps slot result h
  | flatReadDone slot addr result => exact flatReadDone_keeps slot addr result h
  | calibratePixel => exact calibratePixel_keeps h
  | placementEntryStart => exact placementEntryStart_keeps h
  | placementReadDone entry result => exact placementReadDone_keeps entry result h
  | placementWriteDone entry result => exact placementWriteDone_keeps entry result h
  | clearWriteDone result => exact clearWriteDone_keeps result h
  | renderReadDone result => exact renderReadDone_keeps result h
  | renderWriteDone result => exact renderWriteDone_keeps result h
  | statusWriteDone result => exact statusWriteDone_keeps result h
  | ackClearFlags initiator select => exact ackClearFlags_keeps h
  | ackClearCounters initiator select => exact ackClearCounters_keeps h
  | _ =>
    refine act_keeps ?_ h
    exact take_keeps _ s

theorem tick_inOrder {e : Exposure} (h : e.InOrder) : e.tick.InOrder := h

/-- A millisecond moves the timers alone (R28). -/
theorem tick_keeps (s : State) : KeepsInvariants s { s with queue := s.queue.map Exposure.tick } where
  pending := rfl
  attends := id
  lock := id
  capacity := by
    rintro ⟨hqueue, hrest⟩
    exact ⟨by rwa [List.length_map], hrest⟩
  ledger := by
    rintro ⟨hnd, horder, hretired, hassigned, hload⟩
    refine ⟨?_, fun x hx => ?_, hretired, fun i => ?_, fun hl => ?_⟩
    · rwa [List.map_map]
    · obtain ⟨e, he, rfl⟩ := List.mem_map.mp hx
      exact tick_inOrder (horder e he)
    · exact (hassigned i).trans (nextAssignment_map (f := Exposure.tick) (fun _ => ⟨rfl, rfl, rfl⟩) i s.queue).symm
    · show s.queue.map Exposure.tick = []
      rw [hload hl]
      rfl
  references := referencesAgree_congr (by rw [List.map_map]; rfl) (fun _ => rfl) fun w hw => ⟨w, hw, rfl⟩
  order := id

theorem idle_keeps (s : State) : KeepsInvariants s s.idle := by
  unfold State.idle
  split
  · exact .refl s
  · split
    · next e he =>
      have hread : e.state = .reading := by
        have hdue := List.find?_some he
        simp only [Exposure.expiryDue, Bool.and_eq_true, beq_iff_eq] at hdue
        exact hdue.1
      exact (cutExposure_keeps .stalled (List.mem_of_find?_eq_some he) (.inr hread)).trans (settleRequests_quiet _).keeps
    · exact tick_keeps s

/-- A step keeps the invariants of the state with its command taken from the queue. -/
theorem step_keeps (h : step s = .next u) : KeepsInvariants { s with pending := s.pending.tail } u := by
  unfold step at h
  split at h
  · next hnil =>
    obtain rfl : s.idle = u := by injection h
    rw [show { s with pending := s.pending.tail } = s by rw [hnil]; exact congrArg (fun q => { s with pending := q }) hnil.symm]
    exact idle_keeps s
  · next hcons =>
    rw [hcons]
    exact exec_keeps _ h

end

/-! ### The obligations -/

/-- Every command but those of the reset pin is a step of the part: nothing under RESET, and otherwise an operation whose
requests are taken at its end (R143, R155, R172). -/
theorem exec_cases (c : Instr) (s : State) :
    c = .resetAssert ∨ (∃ base level, c = .resetRelease base level)
      ∨ ∃ v : State, exec c s = .next (if s.resetAsserted then s else v.settleRequests) := by
  cases c with
  | resetAssert => exact .inl rfl
  | resetRelease base level => exact .inr (.inl ⟨base, level, rfl⟩)
  | _ => exact .inr (.inr ⟨_, rfl⟩)

/-- A command leaves no request open (R172). -/
theorem exec_unrequested (c : Instr) {s u : State} (hs : s.requested = false ∧ s.retirements = 0)
    (h : exec c s = .next u) : u.requested = false ∧ u.retirements = 0 := by
  rcases exec_cases c s with rfl | ⟨base, level, rfl⟩ | ⟨v, hv⟩
  · obtain rfl : (if s.resetAsserted then s else s.assertReset) = u := by injection h
    split <;> exact hs
  · obtain rfl : (if s.resetAsserted then { State.released base level with answers := s.answers, pending := s.pending }
      else s) = u := by injection h
    split
    · exact ⟨rfl, rfl⟩
    · exact hs
  · obtain rfl : (if s.resetAsserted then s else v.settleRequests) = u := by
      rw [hv] at h
      injection h
    split
    · exact hs
    · exact ⟨settleRequests_requested _, settleRequests_retirements _⟩

theorem step_unrequested {s u : State} (hs : s.requested = false ∧ s.retirements = 0) (h : step s = .next u) :
    u.requested = false ∧ u.retirements = 0 := by
  unfold step at h
  split at h
  · obtain rfl : s.idle = u := by injection h
    unfold State.idle
    split
    · exact hs
    · split
      · exact ⟨settleRequests_requested _, settleRequests_retirements _⟩
      · exact hs
  · refine exec_unrequested _ ?_ h
    exact hs

/-- Settles O54, by what every operation keeps and the requests taken at the step's end. -/
theorem stepKeepsTheAttentionLine : Obligations.StepKeepsTheAttentionLine := by
  rintro s u ⟨hreq, hret, hattends⟩ h
  obtain ⟨hreq', hret'⟩ := step_unrequested ⟨hreq, hret⟩ h
  exact ⟨hreq', hret', (step_keeps h).attends hattends⟩

/-- Settles O55. -/
theorem stepKeepsTheLock : Obligations.StepKeepsTheLock := fun _ _ hs h => (step_keeps h).lock hs

/-- Settles O56. -/
theorem stepKeepsTheCapacities : Obligations.StepKeepsTheCapacities := fun _ _ hs h => (step_keeps h).capacity hs

/-- Settles O57. -/
theorem stepKeepsTheLedger : Obligations.StepKeepsTheLedger := fun _ _ hs h => (step_keeps h).ledger hs

/-- Settles O58. -/
theorem stepKeepsTheReferenceCounts : Obligations.StepKeepsTheReferenceCounts :=
  fun _ _ hs h => (step_keeps h).references hs

/-- Settles O59. -/
theorem stepKeepsThePlacementOrder : Obligations.StepKeepsThePlacementOrder := fun _ _ hs h => (step_keeps h).order hs

/-- Settles O60: at reset every block holds its pin-reset value, and nothing is in flight. -/
theorem resetMeetsEveryInvariant : Obligations.ResetMeetsEveryInvariant := by
  have hreset : State.reset.AtPinReset 0 0 := rfl
  exact ⟨⟨rfl, rfl, atPinReset_attends hreset⟩, atPinReset_lockAgrees hreset,
    atPinReset_withinCapacity hreset (Nat.zero_le _), atPinReset_ledger hreset, atPinReset_references hreset,
    atPinReset_order hreset fun _ hf => absurd hf List.not_mem_nil⟩

theorem exec_next (c : Instr) (s : State) : ∃ t, exec c s = .next t := by
  rcases exec_cases c s with rfl | ⟨base, level, rfl⟩ | ⟨v, hv⟩
  · exact ⟨_, rfl⟩
  · exact ⟨_, rfl⟩
  · exact ⟨_, hv⟩

/-- Settles O2: every command answers a next state, and the queue is among what every operation keeps. -/
theorem everyCommandAnswersAndKeepsTheQueue : Obligations.EveryCommandAnswersAndKeepsTheQueue := by
  intro c s
  obtain ⟨t, ht⟩ := exec_next c s
  exact ⟨t, ht, (exec_keeps c ht).pending⟩

end Sys2Proof.Machine
end


section
/-! The step and the RESET pin (R28, R29, R143, R155), the two terminations of the intake buffer's transfers (R64, R65,
R154), the relay of a forwarded termination (R131), and the parameter reads of a command (R158). Settles O1, O3, O13, O23
and O42. -/

namespace Sys2Proof.Machine

/-! ### A step on an empty queue (R28, R29) -/

theorem expiryDue_iff (e : Exposure) : e.expiryDue = true ↔ e.state = .reading ∧ e.timer = some 0 := by
  simp [Exposure.expiryDue]

theorem exec_stallTimerExpiry (id : BitVec 16) (s : State) :
    exec (.stallTimerExpiry id) s = execStallTimerExpiry id s := rfl

/-- A stall expiry that is due cuts its exposure (R29). -/
theorem exec_stallTimerExpiry_due {s : State} {id : BitVec 16} {e : Exposure} (hs : s.resetAsserted = false)
    (he : s.exposure? id.toNat = some e) (hdue : e.state = .reading ∧ e.timer = some 0) :
    exec (.stallTimerExpiry id) s = .next (s.cutExposure id.toNat .stalled).settleRequests := by
  rw [exec_stallTimerExpiry, execStallTimerExpiry, act_of_released hs]
  simp only [he, (expiryDue_iff e).2 hdue, if_true]

theorem idle_of_reset {s : State} (h : s.resetAsserted = true) : s.idle = s := by
  rw [State.idle, if_pos h]

/-- With no expiry due a millisecond passes. -/
theorem idle_of_none_due {s : State} (h : s.resetAsserted = false) (hdue : s.queue.find? Exposure.expiryDue = none) :
    s.idle = { s with queue := s.queue.map Exposure.tick } := by
  rw [State.idle, if_neg (by simp [h]), hdue]

/-- The oldest expiry due is taken. -/
theorem idle_of_due {s : State} {e : Exposure} (h : s.resetAsserted = false)
    (hdue : s.queue.find? Exposure.expiryDue = some e) : s.idle = (s.cutExposure e.id .stalled).settleRequests := by
  rw [State.idle, if_neg (by simp [h]), hdue]

/-- Settles O1: the two cases of the queue, and the three of `State.idle`. -/
theorem stepRunsTheQueue : Obligations.StepRunsTheQueue := by
  refine ⟨fun c rest s h => by rw [step, h], fun s h => ?_⟩
  have hstep : step s = .next s.idle := by rw [step, h]
  refine ⟨fun hr => by rw [hstep, idle_of_reset hr], fun hr hnone => ?_, fun id e older newer hr hnd hq hid hdue hold => ?_⟩
  · rw [hstep, idle_of_none_due hr (List.find?_eq_none.2 fun e he => by simpa [expiryDue_iff] using hnone e he)]
    rfl
  · have hfind : s.queue.find? Exposure.expiryDue = some e := by
      rw [hq, List.find?_append, List.find?_eq_none.2 fun x hx => by simpa [expiryDue_iff] using hold x hx,
        Option.none_or, List.find?_cons_of_pos ((expiryDue_iff e).2 hdue)]
    have hmem : e ∈ s.queue := hq ▸ List.mem_append_right _ List.mem_cons_self
    rw [hstep, idle_of_due hr hfind, exec_stallTimerExpiry_due hr (hid ▸ exposure?_of_mem hnd hmem) hdue, hid]

/-! ### The RESET pin (R143, R155) -/

theorem presented_of_reset {α : Type} {s : State} (h : s.resetAsserted = true) (request : Option α) :
    s.presented request = none := if_pos h

/-- Settles O3: the assertion, what is presented under it, and the commands under it. -/
theorem resetAssertStopsThePorts : Obligations.ResetAssertStopsThePorts := by
  refine ⟨fun s h => ?_, fun s h => ?_, fun c s h hc => ?_⟩
  · have hexec : exec .resetAssert s = .next (if s.resetAsserted then s else s.assertReset) := rfl
    rw [hexec, if_neg (by simp [h])]
    rfl
  · exact ⟨presented_of_reset h _, presented_of_reset h _, presented_of_reset h _, presented_of_reset h _,
      presented_of_reset h _, presented_of_reset h _, presented_of_reset h _⟩
  · rcases exec_cases c s with rfl | ⟨base, level, rfl⟩ | ⟨v, hv⟩
    · have hexec : exec .resetAssert s = .next (if s.resetAsserted then s else s.assertReset) := rfl
      rw [hexec, if_pos h]
    · exact absurd rfl (hc base level)
    · rw [hv, if_pos h]

/-! ### The relay of a termination (R131, R141, R152) -/

/-- The answer relayed, by the kind of the transfer. -/
theorem relayed_eq (t : Transfer) (result : Termination) :
    relayed t result = (match result, t.op with
      | .fault, _ => .fault
      | .done _, .write _ | .done _, .lockedWrite _ | .done _, .lockedLastWrite _ => .done 0
      | .done d, _ => .done d) := by
  rcases t with ⟨initiator, addr, size, op⟩
  cases result <;> cases op <;> rfl

theorem endsLock_iff (t : Transfer) (result : Termination) :
    endsLock t result = true ↔ (∃ d, t.op = .lockedLastWrite d) ∨ (t.op = .lockedRead ∧ result = .fault) := by
  rcases t with ⟨initiator, addr, size, op⟩
  cases op <;> simp [endsLock, Transfer.isLockedLast, Transfer.isLockedRead]

/-- Settles O13. -/
theorem forwardedTerminationIsRelayed : Obligations.ForwardedTerminationIsRelayed := by
  intro t result s hs hc hf lockEnds v
  have hv : (s.land fun f => f.owner == .forward).answer t (relayed t result) = v := by
    rw [relayed_eq]
    rfl
  have hexec : exec (.forwardTermination result) s = .next (if endsLock t result then v.endLock else v).settleRequests := by
    rw [← hv]
    change execForwardTermination result s = _
    rw [execForwardTermination, act_of_released hs.1]
    simp only [hc, hf]
  refine ⟨fun h => ?_, fun h => ?_⟩
  · rw [hexec, if_neg (by rwa [endsLock_iff])]
    exact next_settleRequests hs.2
  · rw [hexec, if_pos ((endsLock_iff t result).2 h)]
    exact next_settleRequests (u := v.endLock) hs.2

/-! ### A fault of the part's own transfer (R154) -/

/-- A memory fault of a step, with nothing else. -/
theorem memoryFault_faultCounted {v : State} (hv : v.Settled) : FaultCounted v v.memoryFault.settleRequests :=
  (signals_memoryFault hv).settled hv.1 hv.2.1

/-- Settles O23. -/
theorem copyAndFlatTerminations : Obligations.CopyAndFlatTerminations := by
  refine ⟨?_, ?_⟩
  · intro slot f s hs hf v
    have hv : v.Settled := hs.2
    have hexec (result : Termination) : exec (.keepRawCopyDone slot result) s
        = .next (match f.live, result with
          | true, .fault => v.memoryFault
          | _, _ => v).settleRequests := by
      change execKeepRawCopyDone slot result s = _
      rw [execKeepRawCopyDone, act_of_released hs.1]
      simp only [State.findInFlight, hf]
      rfl
    refine ⟨fun d => ?_, fun hl => ?_, fun hl => ?_⟩
    · rw [hexec]
      cases f.live <;> exact next_settleRequests hv
    · refine ⟨_, hexec _, ?_⟩
      rw [hl]
      exact memoryFault_faultCounted hv
    · rw [hexec, hl]
      exact next_settleRequests hv
  · intro slot addr f s hs hf landed with_
    have hw (st : FlatStatus) : (with_ st).Settled := hs.2
    have hexec (result : Termination) : exec (.flatReadDone slot addr result) s
        = .next (match f.live, result with
          | false, _ => { s with inFlight := landed }
          | true, .done line => with_ (.read line)
          | true, .fault => (with_ .faulted).memoryFault).settleRequests := by
      change execFlatReadDone slot addr result s = _
      rw [execFlatReadDone, act_of_released hs.1]
      simp only [State.findInFlight, hf]
      rfl
    refine ⟨fun hl d => ?_, fun hl => ?_, fun hl result => ?_⟩
    · rw [hexec, hl]
      exact next_settleRequests (hw _)
    · refine ⟨_, hexec _, ?_⟩
      rw [hl]
      exact memoryFault_faultCounted (hw _)
    · rw [hexec, hl]
      exact next_settleRequests (u := { s with inFlight := landed }) hs.2

/-! ### The parameter reads (R158) -/

/-- Settles O42. -/
theorem parameterReadsOrBadParameter : Obligations.ParameterReadsOrBadParameter := by
  intro c first s hs heng hfly
  refine ⟨fun line hfirst => ?_, (s.commandLanded.memoryFault.finish c .badParameter 271).settleRequests, ?_,
    finish_memoryFault_endedByFault c .badParameter 271 (commandLanded_settled hs.2)⟩
  · subst hfirst
    rw [exec_parameterReadDone, execParameterReadDone, act_of_released hs.1]
    simp only [heng, hfly]
    exact next_settleRequests (commandLanded_settled hs.2)
  · rw [exec_parameterReadDone, execParameterReadDone, act_of_released hs.1]
    simp only [heng, hfly]

end Sys2Proof.Machine
end


section
/-! The placement queue's acceptance (R83) and the start of its oldest eligible entry (R86). Settles O27 and O28. -/

namespace Sys2Proof.Machine

/-- A change by key reaches one element of a list without repeated keys. -/
theorem map_if_key_split {α : Type} (key : α → Nat) (f : α → α) {older newer : List α} {e : α}
    (hnd : ((older ++ e :: newer).map key).Nodup) :
    (older ++ e :: newer).map (fun x => if key x = key e then f x else x) = older ++ f e :: newer := by
  rw [List.map_append, List.map_cons, List.nodup_append, List.nodup_cons] at hnd
  obtain ⟨-, ⟨hnew, -⟩, hold⟩ := hnd
  have hkeep (l : List α) (h : ∀ x ∈ l, key x ≠ key e) : l.map (fun x => if key x = key e then f x else x) = l :=
    (List.map_congr_left fun x hx => if_neg (h x hx)).trans l.map_id'
  rw [List.map_append, List.map_cons, if_pos rfl,
    hkeep older fun x hx => hold _ (List.mem_map_of_mem hx) _ List.mem_cons_self,
    hkeep newer fun x hx heq => hnew (heq ▸ List.mem_map_of_mem hx)]

/-- The last element that passes a test: the elements behind it do not. -/
theorem getLast?_filter_eq_some {α : Type} {p : α → Bool} {l : List α} {e : α} :
    (l.filter p).getLast? = some e ↔ ∃ older newer, l = older ++ e :: newer ∧ p e = true ∧ ∀ x ∈ newer, p x = false := by
  constructor
  · intro h
    obtain ⟨ys, hys⟩ := List.getLast?_eq_some_iff.1 h
    obtain ⟨l1, l2, rfl, -, h2⟩ := List.filter_eq_append_iff.1 hys
    obtain ⟨a, b, rfl, -, hp, hb⟩ := List.filter_eq_cons_iff.1 h2
    exact ⟨l1 ++ a, b, by simp, hp, fun x hx => by simpa using List.filter_eq_nil_iff.1 hb x hx⟩
  · rintro ⟨older, newer, rfl, hp, hnew⟩
    have hnil : newer.filter p = [] := List.filter_eq_nil_iff.2 fun x hx => by simp [hnew x hx]
    rw [List.filter_append, List.filter_cons_of_pos hp, hnil, List.getLast?_concat]

/-! ### The acceptance of a contribution (R83) -/

/-- The newest WAITING entry of a line. -/
theorem newestWaiting_eq_some {s : State} {line : Nat} {e : Entry} :
    s.newestWaiting line = some e ↔ ∃ older newer, s.entries = older ++ e :: newer ∧ (e.state = .waiting ∧ e.line = line)
      ∧ ∀ x ∈ newer, ¬ (x.state = .waiting ∧ x.line = line) := by
  rw [State.newestWaiting, getLast?_filter_eq_some]
  simp [← Bool.not_eq_true]

/-- The newest WAITING entry of a line takes the contribution in an empty lane. -/
theorem acceptContribution_of_merge {s : State} {line : Nat} {j : Fin 4} {e : Entry} {older newer : List Entry}
    (c : Contribution) (hnd : (s.entries.map (·.tag)).Nodup) (hsplit : s.entries = older ++ e :: newer)
    (hnewest : s.newestWaiting line = some e) (hlane : e.lanes[j] = none) :
    s.acceptContribution line j c
      = some { s with entries := older ++ { e with lanes := e.lanes.set j.1 (some c) j.2 } :: newer } := by
  rw [State.acceptContribution, hnewest]
  simp only [hlane, Option.isNone_none, if_true, State.updateEntry, Option.some.injEq]
  rw [hsplit, map_if_key_split Entry.tag (fun e => { e with lanes := e.lanes.set j.1 (some c) j.2 }) (by rwa [← hsplit])]

/-- Without an entry to take it, a contribution needs a new one. -/
theorem acceptContribution_of_no_merge {s : State} {line : Nat} {j : Fin 4} (c : Contribution)
    (h : ∀ e, s.newestWaiting line = some e → e.lanes[j] ≠ none) :
    s.acceptContribution line j c = s.newEntry line j c := by
  rw [State.acceptContribution]
  cases hn : s.newestWaiting line with
  | none => rfl
  | some e =>
    have hlane : e.lanes[j].isNone = false := by simpa [Option.isSome_iff_ne_none] using h e hn
    simp only [hlane, Bool.false_eq_true, if_false]

/-- Settles O27. -/
theorem placementQueueAcceptsAContribution : Obligations.PlacementQueueAcceptsAContribution := by
  intro line j c s hnd merges
  refine ⟨?_, fun hno => ?_⟩
  · rintro e older newer ⟨hsplit, hwait, hline, hnew, hlane⟩
    exact acceptContribution_of_merge c hnd hsplit
      (newestWaiting_eq_some.2 ⟨older, newer, hsplit, ⟨hwait, hline⟩, hnew⟩) hlane
  · have haccept := acceptContribution_of_no_merge (s := s) (line := line) (j := j) c fun e he hlane => by
      obtain ⟨older, newer, hsplit, ⟨hwait, hline⟩, hnew⟩ := newestWaiting_eq_some.1 he
      exact hno e older newer ⟨hsplit, hwait, hline, hnew, hlane⟩
    rw [haccept, State.newEntry, Config.placementCapacity]
    refine ⟨fun hroom => ⟨(Vector.replicate 4 none).set j.1 (some c) j.2, fun m => ?_, if_pos hroom⟩, fun hfull => ?_⟩
    · simp [Vector.getElem_set, Fin.ext_iff, eq_comm]
    · exact if_neg hfull.not_gt

/-! ### The oldest eligible entry (R86) -/

/-- The oldest eligible entry: WAITING, with no older entry of its line, and every older entry that waits has one. -/
theorem firstEligible_split {e : Entry} {newer : List Entry} (hwait : e.state = .waiting) :
    ∀ (older : List Entry) (lines : List Nat), (∀ x ∈ older, x.line ≠ e.line) → e.line ∉ lines →
      (∀ x a b, older = a ++ x :: b → x.state = .waiting → x.line ∈ lines ∨ ∃ y ∈ a, y.line = x.line) →
      firstEligible lines (older ++ e :: newer) = some e
  | [], lines, _, hlines, _ => by rw [List.nil_append, firstEligible, if_pos ⟨hwait, hlines⟩]
  | x :: older, lines, hold, hlines, hwaits => by
    have hx : ¬ (x.state = .waiting ∧ x.line ∉ lines) := fun ⟨hw, hn⟩ => by
      rcases hwaits x [] older rfl hw with h | ⟨y, hy, -⟩
      · exact hn h
      · exact absurd hy List.not_mem_nil
    rw [List.cons_append, firstEligible, if_neg hx]
    refine firstEligible_split hwait older _ (fun y hy => hold y (List.mem_cons_of_mem _ hy)) ?_ fun y a b hsplit hw => ?_
    · rw [List.mem_cons, not_or]
      exact ⟨(hold x List.mem_cons_self).symm, hlines⟩
    · rcases hwaits y (x :: a) b (by rw [hsplit]; rfl) hw with h | ⟨z, hz, hline⟩
      · exact .inl (List.mem_cons_of_mem _ h)
      · rcases List.mem_cons.1 hz with rfl | hz
        · exact .inl (hline ▸ List.mem_cons_self)
        · exact .inr ⟨z, hz, hline⟩

/-- Settles O28. -/
theorem oldestEligibleEntryIsStarted : Obligations.OldestEligibleEntryIsStarted := by
  intro e older newer s hs hnd hpres hdue hsplit hwait hline hold
  have helig : firstEligible [] s.entries = some e := by
    rw [hsplit]
    exact firstEligible_split hwait older [] hline List.not_mem_nil fun x a b h hw => .inr (hold x a b h hw)
  have hstart : s.startEntry e.tag
      = { s with entries := older ++ { e with state := .reading } :: newer, placePresented := some e.tag } := by
    rw [State.startEntry, State.updateEntry, hsplit,
      map_if_key_split Entry.tag (fun e => { e with state := .reading }) (by rwa [← hsplit])]
  change execPlacementEntryStart s = _
  rw [execPlacementEntryStart, act_of_released hs.1]
  simp only [hpres, List.find?_eq_none.2 fun x hx => by simpa using hdue x hx, helig]
  rw [hstart]
  exact next_settleRequests hs.2

end Sys2Proof.Machine
end


section
/-! Retirement along the queue (R31, R32), and the two ways an exposure is cut: by its stall timer (R29) and by
CLOSE_EXPOSURE (R27). Settles O18, O19 and O44. -/

namespace Sys2Proof.Machine

/-! ### Retirement along the queue (R31, R32) -/

/-- The exposure ended as CUT (R26). -/
def Exposure.isCut (e : Exposure) : Bool := e.outcome.any (·.cut)

theorem retirementFlag_eq (e : Exposure) : retirementFlag e = if e.isCut then .exposureCut else .exposureDone := by
  unfold retirementFlag Exposure.isCut
  cases e.outcome with
  | none => rfl
  | some o => rfl

/-- The flags that the retirements of a list set (R31 step 4). -/
def retirementFlags (gone : List Exposure) : List Flag :=
  (if gone.any Exposure.isCut then [.exposureCut] else []) ++ (if gone.any fun e => !e.isCut then [.exposureDone] else [])

theorem flagsAfter_retirementFlags_cons (e : Exposure) (rest : List Exposure) (w : BitVec 15) :
    flagsAfter (retirementFlags rest) (w ||| (retirementFlag e).mask) = flagsAfter (retirementFlags (e :: rest)) w := by
  have hcomm (a b : BitVec 15) : w ||| a ||| b = w ||| b ||| a := by rw [BitVec.or_assoc, BitVec.or_comm a, BitVec.or_assoc]
  have hself (v a : BitVec 15) : v ||| a ||| a = v ||| a := by rw [BitVec.or_assoc, BitVec.or_self]
  rw [retirementFlag_eq]
  cases hcut : e.isCut <;> cases hany : rest.any Exposure.isCut <;> cases hdone : rest.any fun e => !e.isCut <;>
    simp [retirementFlags, flagsAfter, hcut, hany, hdone, hself, hcomm (Flag.mask .exposureDone)]

/-- A stack record after the retirement of a list (R31 step 3). -/
def StackRecord.withoutRetired (k : StackSlot) (gone : List Exposure) (r : StackRecord) : StackRecord :=
  { r with refCount := r.refCount - (gone.filter fun e => e.stackSlot = k).length }

/-- The state after the retirement of a list, head first, but for the queue (R31, R32). -/
def State.afterRetiring (gone : List Exposure) (s : State) : State :=
  { s with
    retired := ((gone.map retiredOf).reverse ++ s.retired).take 4, retirements := s.retirements + gone.length
    requested := true, flags := flagsAfter (retirementFlags gone) s.flags
    attn := attention (flagsAfter (retirementFlags gone) s.flags) s.enables
    stack0 := s.stack0.withoutRetired .zero gone, stack1 := s.stack1.withoutRetired .one gone }

theorem retireOne_eq (e : Exposure) {s : State} (h : s.Attends) :
    s.retireOne e = { s with
      retired := (retiredOf e :: s.retired).take 4, retirements := s.retirements + 1, requested := true
      flags := s.flags ||| (retirementFlag e).mask, attn := attention (s.flags ||| (retirementFlag e).mask) s.enables
      stack0 := s.stack0.withoutRetired .zero [e], stack1 := s.stack1.withoutRetired .one [e] } := by
  rw [State.retireOne, setFlag_eq _ _ (by simpa [State.dropReference, State.Attends] using h)]
  cases hk : e.stackSlot <;>
    simp [State.request, State.dropReference, State.setStack, StackRecord.withoutRetired, hk, Config.retiredCapacity,
      State.stack]

theorem withoutRetired_cons (k : StackSlot) (e : Exposure) (rest : List Exposure) (r : StackRecord) :
    (r.withoutRetired k [e]).withoutRetired k rest = r.withoutRetired k (e :: rest) := by
  by_cases h : e.stackSlot = k <;> simp [StackRecord.withoutRetired, h, Nat.sub_sub, Nat.add_comm]

theorem afterRetiring_nil {s : State} (ha : s.Attends) (hr : s.retired.length ≤ 4) (hreq : s.requested = true) :
    s.afterRetiring [] = s := by
  have hattn : s.attn = attention s.flags s.enables := ha
  have hnil : s.afterRetiring [] = { s with
      retired := s.retired.take 4, requested := true, attn := attention s.flags s.enables } := rfl
  rw [hnil, List.take_of_length_le hr, ← hattn, ← hreq]

theorem take_append_take {α : Type} (n : Nat) (l xs : List α) : (l ++ xs.take n).take n = (l ++ xs).take n := by
  rw [List.take_append, List.take_append, List.take_take, Nat.min_eq_left (Nat.sub_le _ _)]

theorem afterRetiring_cons (e : Exposure) (rest : List Exposure) {s : State} (ha : s.Attends) :
    (s.retireOne e).afterRetiring rest = s.afterRetiring (e :: rest) := by
  rw [retireOne_eq e ha]
  simp only [State.afterRetiring, flagsAfter_retirementFlags_cons, withoutRetired_cons, take_append_take, List.map_cons,
    List.reverse_cons, List.append_assoc, List.singleton_append, List.length_cons, Nat.add_assoc, Nat.add_comm 1]

theorem retireAlong_eq : ∀ (q : List Exposure) {s : State}, s.Attends → s.retired.length ≤ 4 → s.requested = true →
    State.retireAlong q s
      = { s.afterRetiring (q.takeWhile fun e => e.state = .done) with queue := q.dropWhile fun e => e.state = .done }
  | [], s, ha, hr, hreq => by
    rw [List.takeWhile_nil, afterRetiring_nil ha hr hreq]
    rfl
  | e :: rest, s, ha, hr, hreq => by
    by_cases h : e.state = .done
    · have hone := retireOne_eq e ha
      rw [State.retireAlong, if_pos h, retireAlong_eq rest (by rw [hone]; rfl) (by rw [hone]; simp) (by rw [hone]),
        afterRetiring_cons e _ ha]
      simp [h]
    · have htake : (e :: rest).takeWhile (fun e => e.state = .done) = [] := by simp [h]
      rw [State.retireAlong, if_neg h, htake, afterRetiring_nil ha hr hreq]
      simp [h]

/-- Settles O18. -/
theorem drainedExposureIsDoneAndRetires : Obligations.DrainedExposureIsDoneAndRetires := by
  intro id e s hnd hcap ha he hid
  obtain ⟨-, hr, -⟩ := hcap
  have hfind : s.exposure? id = some e := hid ▸ exposure?_of_mem hnd he
  refine ⟨fun h => ?_, ?_⟩
  · rw [State.testDone, hfind]
    exact if_neg h
  · intro hdrain hout done queue gone cut
    have hqueue : (s.updateExposure id Exposure.toDone).queue = queue := by
      refine List.map_congr_left fun x hx => ?_
      split
      · next hx' => rw [List.inj_on_of_nodup_map hnd hx he (hx'.trans hid.symm)]; rfl
      · rfl
    have htest : s.testDone id = { s.afterRetiring gone with queue := queue.dropWhile fun x => x.state = .done } := by
      rw [State.testDone, hfind]
      simp only [hdrain, hout, and_self, if_true]
      refine (retireAlong_eq _ (s := (s.updateExposure id Exposure.toDone).request) ha hr rfl).trans ?_
      simp only [State.request, hqueue]
      rfl
    refine ⟨_, rfl, ?_, fun k => ?_, ?_⟩
    · rw [htest]
      rfl
    · rw [htest]
      cases k <;> rfl
    · rw [htest]
      exact ⟨rfl, rfl⟩

/-! ### The expiry of a stall timer (R29) -/

/-- An exposure whose state is QUEUED or READING, in a ledger that balances, is cut as `withCut` says. -/
theorem cutExposure_of_open {s : State} {e : Exposure} (reason : CutReason) (hl : s.LedgerBalances) (he : e ∈ s.queue)
    (hopen : e.state = .queued ∨ e.state = .reading) :
    s.cutExposure e.id reason = (s.withCut e.id reason).testDone e.id := by
  obtain ⟨hnd, horder, -⟩ := hl
  obtain ⟨hsub, -⟩ := horder e he
  exact cutExposure_eq reason hnd he hopen hsub

/-- Settles O19. -/
theorem stallExpiryCutsTheExposure : Obligations.StallExpiryCutsTheExposure := by
  intro id s hs hl
  refine ⟨fun e he hid hstate htimer => ?_, fun h => ?_⟩
  · have hfind : s.exposure? id.toNat = some e := hid ▸ exposure?_of_mem hl.1 he
    rw [exec_stallTimerExpiry_due hs.1 hfind ⟨hstate, htimer⟩, ← hid, cutExposure_of_open _ hl he (.inr hstate)]
  · rw [exec_stallTimerExpiry, execStallTimerExpiry, act_of_released hs.1]
    cases hfind : s.exposure? id.toNat with
    | none => exact next_settleRequests hs.2
    | some e =>
      obtain ⟨he, hid⟩ := mem_of_exposure? hfind
      have hdue : ¬ e.expiryDue = true := fun hdue => by
        obtain ⟨hstate, htimer⟩ := (expiryDue_iff e).1 hdue
        exact (h e he hid).elim (· hstate) (· htimer)
      simp only [if_neg hdue]
      exact next_settleRequests hs.2

/-! ### CLOSE_EXPOSURE (R27) -/

/-- The segments that a cut of an exposure ends (R27). -/
def Exposure.unended (e : Exposure) : List SegIdx :=
  (List.finRange 128).filter fun i => e.segSet.getLsbD i.1 && !e.ended.getLsbD i.1

theorem memberCount_unended (e : Exposure) : memberCount (e.segSet &&& ~~~e.ended) = e.unended.length := by
  rw [memberCount, Exposure.unended, ← List.map_coe_finRange_eq_range, List.filter_map, List.length_map]
  refine congrArg List.length (List.filter_congr fun i _ => ?_)
  simp

theorem unended_length_le (e : Exposure) : e.unended.length ≤ 128 :=
  (List.length_filter_le _ _).trans (List.length_finRange ..).le

/-- An exposure that has not ended every segment has one left. -/
theorem one_le_unended {e : Exposure} (h : e.InOrder) (hopen : e.state = .queued ∨ e.state = .reading) :
    1 ≤ e.unended.length := by
  obtain ⟨hsub, hall, -⟩ := h
  have hne : e.ended ≠ e.segSet := fun heq => by
    rcases hall.2 heq with h | h <;> rcases hopen with ho | ho <;> rw [ho] at h <;> exact absurd h (by decide)
  by_contra hlt
  have hnone : ∀ i : SegIdx, (e.segSet.getLsbD i.1 && !e.ended.getLsbD i.1) = false := fun i => by
    have hnil : e.unended = [] := List.length_eq_zero_iff.1 (by omega)
    simpa using List.filter_eq_nil_iff.1 hnil i (List.mem_finRange i)
  refine hne (BitVec.eq_of_getLsbD_eq fun i hi => ?_)
  have hbit := hnone ⟨i, hi⟩
  have hin : (e.ended &&& e.segSet).getLsbD i = e.ended.getLsbD i := by rw [hsub]
  rw [BitVec.getLsbD_and] at hin
  cases hs : e.segSet.getLsbD i <;> cases he : e.ended.getLsbD i <;> simp_all

/-- A command that ends in a step whose exposures have retired: one request for each retirement, and one at least. -/
theorem finish_endedAsking (c : CurrentCommand) (r : ResultCode) (d : Nat) {v : State} (ha : v.Attends) :
    EndedAsking (max 1 v.retirements) (BitVec.ofNat 8 c.code.number) c.tag r d
      { v with requested := false, retirements := 0 } (v.finish c r d).settleRequests := by
  have hfin : v.finish c r d = _ := endCommand_eq _ _ r d v ha
  have hreq : (v.finish c r d).requests = max 1 v.retirements := by
    rw [hfin]
    simp [State.requests]
  refine ⟨?_, ?_, ?_⟩
  · simp only [settleRequests_flags, settleRequests_attn]
    rw [settleRequests_frame, settleRequests_requested, settleRequests_retirements, hfin]
  · simpa only [FlagsSet, settleRequests_flags, settleRequests_attn, settleRequests_enables] using finish_flagsSet c r d ha
  · have h := settleRequests_rewritesAfter (s := v) (v := v.finish c r d) (by simp) (by simp) (by simp)
    rwa [hreq] at h

/-- Settles O44. -/
theorem closeExposureCutsOrRefuses : Obligations.CloseExposureCutsOrRefuses := by
  intro c first second s hs hl ha hc
  have hv : s.commandLanded.Settled := commandLanded_settled hs.2
  have hhand : s.commandLanded.handOver c (block first second) = s.commandLanded.runCloseExposure c := by
    rw [State.handOver, hc]
  have hcode : BitVec.ofNat 8 c.code.number = 6 := by rw [hc]; rfl
  refine ⟨fun hnone => ?_, fun e he hid => ⟨fun hended => ?_, fun hopen => ?_⟩⟩
  · refine command_ends hs ha hcode hv (hhand.trans ?_)
    rw [State.runCloseExposure, (exposure?_eq_none_iff s.commandLanded _).2 hnone]
  · have hfind : s.commandLanded.exposure? c.arg.toNat = some e := hid ▸ exposure?_of_mem hl.1 he
    refine command_ends hs ha hcode hv (hhand.trans ?_)
    simp only [State.runCloseExposure, hfind, if_pos hended]
  · have hfind : s.commandLanded.exposure? c.arg.toNat = some e := hid ▸ exposure?_of_mem hl.1 he
    have hne : ¬ (e.state = .draining ∨ e.state = .done) := by
      rcases hopen with h | h <;> rw [h] <;> decide
    have hcut : s.commandLanded.cutExposure e.id .closed = (s.commandLanded.withCut e.id .closed).testDone e.id :=
      cutExposure_of_open (s := s.commandLanded) .closed hl he hopen
    have hrun : s.commandLanded.handOver c (block first second)
        = ((s.commandLanded.withCut e.id .closed).testDone e.id).finish c .ok e.unended.length := by
      rw [hhand]
      simp only [State.runCloseExposure, hfind, if_neg hne]
      rw [← hid, hcut, memberCount_unended]
    have hattends : ((s.commandLanded.withCut e.id .closed).testDone e.id).Attends :=
      (testDone_moves e.id _).attends hv.2.2
    refine ⟨_, exec_parameterReadDone_second second hs ha, one_le_unended (hl.2.1 e he) hopen, unended_length_le e, ?_⟩
    rw [hrun, ← hcode]
    exact finish_endedAsking c .ok e.unended.length hattends

end Sys2Proof.Machine
end


section
/-! The bias estimate at the end of an overscan row (R53, R54). Settles O20. -/

namespace Sys2Proof.Machine

/-- The step under a shift of 1 to 7 is the rounded share. -/
theorem biasStep_eq {k : Nat} (hk : 0 < k) (hk7 : k ≤ 7) (x : Int) : biasStep k x = (x + 2 ^ (k - 1)) / 2 ^ k := by
  rw [biasStep, if_neg hk.ne', if_pos hk7]

theorem biasStep_bounds {k : Nat} (hk : 0 < k) (hk7 : k ≤ 7) (x : Int) :
    2 ^ k * biasStep k x ≤ x + 2 ^ (k - 1) ∧ x + 2 ^ (k - 1) < 2 ^ k * (biasStep k x + 1) := by
  have hpos : (0 : Int) < 2 ^ k := by positivity
  rw [biasStep_eq hk hk7]
  exact ⟨Int.mul_ediv_self_le hpos.ne', by rw [mul_comm]; exact Int.lt_ediv_add_one_mul_self _ hpos⟩

/-- The step lies between nothing and the whole difference. -/
theorem biasStep_between {k : Nat} (hk7 : k ≤ 7) (x : Int) : min 0 x ≤ biasStep k x ∧ biasStep k x ≤ max 0 x := by
  rcases Nat.eq_zero_or_pos k with rfl | hk
  · exact ⟨min_le_right _ _, le_max_right _ _⟩
  · obtain ⟨h, rfl⟩ : ∃ h, k = h + 1 := ⟨k - 1, by omega⟩
    obtain ⟨hlo, hhi⟩ := biasStep_bounds hk hk7 x
    have hpow : (2 : Int) ^ (h + 1) = 2 * 2 ^ h := pow_succ' 2 h
    have hone : (1 : Int) ≤ 2 ^ h := one_le_pow₀ (by norm_num)
    rw [hpow, Nat.add_sub_cancel] at hlo hhi
    rcases le_or_gt 0 x with hx | hx
    · rw [min_eq_left hx, max_eq_right hx]
      constructor <;> nlinarith
    · rw [min_eq_right hx.le, max_eq_left hx.le]
      constructor <;> nlinarith

/-- The row's mean is the rounded quotient of the values used by their number (R53). -/
theorem rowMean_eq (ov : Nat) {a : Accumulator} (hmax : a.max ≤ a.sum) :
    rowMean ov a = roundUp (16 * ((if 4 ≤ ov then a.sum - a.max else a.sum : Nat) : Int)) (if 4 ≤ ov then a.n - 1 else a.n) := by
  rw [rowMean]
  split
  · rw [Nat.cast_sub hmax]
  · rfl

/-- Settles O20. -/
theorem completeRowMovesBiasTowardsItsMean : Obligations.CompleteRowMovesBiasTowardsItsMean := by
  intro ov k B a hov hov64 hk hB hn hmax hmax16 hsum used count mean new
  obtain ⟨N, hN, hcount⟩ : ∃ N : Nat, N = (if 4 ≤ ov then a.n - 1 else a.n) ∧ count = N := ⟨_, rfl, by
    simp only [count]
    split <;> omega⟩
  obtain ⟨U, hU, hused⟩ : ∃ U : Nat, U = (if 4 ≤ ov then a.sum - a.max else a.sum) ∧ used = U := ⟨_, rfl, by
    simp only [used]
    split <;> omega⟩
  have hmean : mean = roundUp (16 * (U : Int)) N := by rw [hU, hN, ← rowMean_eq ov hmax]
  have hNpos : 0 < N := by rw [hN]; split <;> omega
  have hUle : U ≤ 65535 * N := by rw [hU, hN]; split <;> omega
  obtain ⟨hlo, hhi⟩ := roundUp_bounds (16 * (U : Int)) hNpos
  have hnonneg : 0 ≤ mean := hmean ▸ roundUp_nonneg (by positivity) N
  have hle : mean ≤ 1048560 := hmean ▸ roundUp_le hNpos (by omega)
  obtain ⟨hmin, hmaxs⟩ := biasStep_between hk (mean - B)
  have hnew : new = B + biasStep k (mean - B) := by
    change ((newBias ov k B a : Nat) : Int) = _
    rw [newBias, Int.toNat_of_nonneg]
    change 0 ≤ (B : Int) + biasStep k (mean - B)
    omega
  rw [← hmean] at hlo hhi
  refine ⟨by rw [hcount, hused]; linarith, by rw [hcount, hused]; linarith, hnonneg, hle, by omega, by omega,
    fun h0 => ?_, fun hpos => ?_⟩
  · rw [hnew, h0]
    change (B : Int) + (mean - B) = mean
    ring
  · rw [show new - B = biasStep k (mean - B) by omega]
    exact biasStep_bounds hpos hk _

end Sys2Proof.Machine
end


section
/-! The way of a raw pixel to its cell and its flat value (R15 to R20). Settles O22. -/

namespace Sys2Proof.Machine

/-! ### Places in a grid, row after row -/

theorem gridIndex_lt {w h row c : Nat} (hrow : row < h) (hc : c < w) : row * w + c < h * w :=
  calc row * w + c < row * w + w := by omega
    _ = (row + 1) * w := by ring
    _ ≤ h * w := Nat.mul_le_mul_right w hrow

theorem gridIndex_div {w row c : Nat} (hc : c < w) : (row * w + c) / w = row := by
  rw [Nat.add_comm, Nat.add_mul_div_right _ _ (by omega), Nat.div_eq_of_lt hc, Nat.zero_add]

theorem gridIndex_mod {w row c : Nat} (hc : c < w) : (row * w + c) % w = c := by
  rw [Nat.add_comm, Nat.add_mul_mod_self_right, Nat.mod_eq_of_lt hc]

theorem gridIndex_inj {w row c row' c' : Nat} (hc : c < w) (hc' : c' < w) (h : row * w + c = row' * w + c') :
    row = row' ∧ c = c' := by
  refine ⟨?_, ?_⟩
  · rw [← gridIndex_div (row := row) hc, h, gridIndex_div hc']
  · rw [← gridIndex_mod (row := row) hc, h, gridIndex_mod hc']

/-! ### The class of a pixel (R15) -/

theorem classOf_of_extent {r : SegRecord} {p : Nat} (h : r.rowlen * r.H ≤ p) : classOf r p = .overrun := if_pos h

theorem classOf_place {r : SegRecord} {row c : Nat} (hrow : row < r.H) (hc : c < r.rowlen) :
    classOf r (row * r.rowlen + c) = if c < r.prescan then .prescan
      else if r.prescan + r.W ≤ c then .overscan row else .data row (c - r.prescan) := by
  have hin : ¬ r.extent ≤ row * r.rowlen + c := by
    rw [SegRecord.extent, Nat.mul_comm r.rowlen, not_le]
    exact gridIndex_lt hrow hc
  rw [classOf, if_neg hin, gridIndex_mod hc, gridIndex_div hc]

/-! ### The kernel shuffle (R16) -/

/-- The true column, told from the column: an odd group of K columns is turned round. -/
def turnedColumn (K d : Nat) : Nat := if d / K % 2 = 0 then d else d / K * K + (K - 1 - d % K)

theorem trueColumn_eq {K : Nat} (hK : 0 < K) (d : Nat) : trueColumn K d = turnedColumn K d := by
  rw [trueColumn, if_neg hK.ne', turnedColumn, Nat.div_add_mod']

/-- A column and its true column lie in one group. -/
theorem turnedColumn_div {K : Nat} (hK : 0 < K) (d : Nat) : turnedColumn K d / K = d / K := by
  rw [turnedColumn]
  split
  · rfl
  · exact gridIndex_div (by omega)

theorem turnedColumn_turnedColumn {K : Nat} (hK : 0 < K) (d : Nat) : turnedColumn K (turnedColumn K d) = d := by
  have hgroup := turnedColumn_div hK d
  by_cases h : d / K % 2 = 0
  · have hd : turnedColumn K d = d := if_pos h
    rw [hd, hd]
  · have hd : turnedColumn K d = d / K * K + (K - 1 - d % K) := if_neg h
    have hmod : turnedColumn K d % K = K - 1 - d % K := by rw [hd, gridIndex_mod (by omega)]
    have hlt := Nat.mod_lt d hK
    have hdecomp := Nat.div_add_mod' d K
    rw [turnedColumn, hgroup, if_neg h, hmod]
    omega

/-- Whole groups make up the row, so that a true column lies within it. -/
theorem turnedColumn_lt {K W d : Nat} (hK : 0 < K) (hW : W % K = 0) (hd : d < W) : turnedColumn K d < W := by
  rw [← Nat.div_mul_cancel (Nat.dvd_of_mod_eq_zero hW)] at hd ⊢
  rw [← Nat.div_lt_iff_lt_mul hK, turnedColumn_div hK]
  exact (Nat.div_lt_iff_lt_mul hK).2 hd

/-! ### The orientation (R17) -/

theorem orient_eq {code : Nat} (h : code ≤ 7) (W H u v : Nat) :
    orient code W H u v
      = ([(u, v), (W - 1 - u, v), (u, H - 1 - v), (W - 1 - u, H - 1 - v),
          (v, u), (H - 1 - v, u), (v, W - 1 - u), (H - 1 - v, W - 1 - u)] : List (Int × Int)).getD code (0, 0) := by
  interval_cases code <;> rfl

/-- An orientation stays within the rectangle, turned by a quarter for the codes from 4 on. -/
theorem orient_range {code W H u v : Nat} (h : code ≤ 7) (hu : u < W) (hv : v < H) :
    0 ≤ (orient code W H u v).1 ∧ (orient code W H u v).1 < (if code < 4 then W else H)
      ∧ 0 ≤ (orient code W H u v).2 ∧ (orient code W H u v).2 < (if code < 4 then H else W) := by
  interval_cases code <;> simp only [orient] <;> refine ⟨?_, ?_, ?_, ?_⟩ <;> norm_num <;> omega

theorem orient_inj {code W H u v u' v' : Nat} (h : code ≤ 7) (heq : orient code W H u v = orient code W H u' v') :
    u = u' ∧ v = v' := by
  interval_cases code <;> simp only [orient, Prod.mk.injEq] at heq <;> omega

/-! ### The mosaic position (R18) -/

theorem mosaicOf_inj {r : SegRecord} {dx dy : Int} {row d row' d' : Nat} (hK : 0 < r.K) (ho : r.orientation ≤ 7)
    (h : mosaicOf r dx dy row d = mosaicOf r dx dy row' d') : row = row' ∧ d = d' := by
  simp only [mosaicOf, trueColumn_eq hK, Prod.mk.injEq] at h
  obtain ⟨hx, hy⟩ := h
  obtain ⟨hcol, hrow⟩ := orient_inj ho (W := r.W) (H := r.H) (Prod.ext (add_left_cancel hx) (add_left_cancel hy))
  refine ⟨hrow, ?_⟩
  rw [← turnedColumn_turnedColumn hK d, hcol, turnedColumn_turnedColumn hK]

/-! ### Cell and flat addresses (R19, R20) -/

/-- A cell fills one lane of its line. -/
theorem cellAddress_lane {k : StackRecord} (hbase : k.cellBase % 32 = 0) (x y : Nat) :
    cellAddress k x y = lineOf (cellAddress k x y) + 8 * (laneIndex (cellAddress k x y)).1
      ∧ lineOf (cellAddress k x y) % 32 = 0 := by
  rw [cellAddress]
  generalize y * k.width + x = n
  simp only [lineOf, laneIndex, Fin.val_ofNat]
  omega

/-- Settles O22. -/
theorem pixelGeometryIsOneToOne : Obligations.PixelGeometryIsOneToOne := by
  refine ⟨fun r p => ⟨classOf_of_extent, ?_⟩, ?_, fun k p => by simp [onFrame], ?_, ?_⟩
  · rintro row c hrow hc rfl
    exact classOf_place hrow hc
  · intro r dx dy hr column oriented wide place
    obtain ⟨hfields, -, hWK, -⟩ := (passesR3_iff r).1 hr
    have hK : 0 < r.K := by
      obtain ⟨-, -, -, -, -, -, -, -, -, -, hK, -⟩ := (fieldsInRange_iff r).1 hfields
      omega
    have ho : r.orientation ≤ 7 := by
      obtain ⟨-, -, -, -, -, -, -, -, -, -, -, -, -, -, -, -, -, -, -, -, ho⟩ := (fieldsInRange_iff r).1 hfields
      exact ho
    refine ⟨fun d hd => ⟨trueColumn_eq hK d, turnedColumn_lt hK hWK hd, turnedColumn_turnedColumn hK d⟩,
      orient_eq ho r.W r.H, fun row d hrow hd => ?_, fun row d row' d' _ _ _ _ h => mosaicOf_inj hK ho h⟩
    obtain ⟨h1, h2, h3, h4⟩ := orient_range ho (turnedColumn_lt hK hWK hd) hrow
    refine ⟨h1, h2, h3, h4, ?_⟩
    change mosaicOf r dx dy row d = _
    rw [mosaicOf, trueColumn_eq hK]
    rfl
  · intro k x y hbase hx hy a
    obtain ⟨hlane, hline⟩ := cellAddress_lane hbase x y
    have hlt := gridIndex_lt hy hx
    refine ⟨hlane, hline, Nat.le_add_right _ _, ?_, fun x' y' hx' hy' h => ?_⟩
    · change k.cellBase + 8 * (y * k.width + x) + 8 ≤ _
      rw [Nat.mul_comm k.width]
      omega
    · have h' : k.cellBase + 8 * (y' * k.width + x') = k.cellBase + 8 * (y * k.width + x) := h
      exact (gridIndex_inj hx' hx (by omega)).symm
  · intro fb r row d hrow hd a
    have hlt := gridIndex_lt hrow hd
    refine ⟨rfl, ?_, fun row' d' hrow' hd' h => ?_⟩
    · change fb + 2 * (row * r.W + d) + 2 ≤ _
      rw [Nat.mul_assoc, Nat.mul_comm r.W]
      omega
    · have h' : fb + 2 * (row' * r.W + d') = fb + 2 * (row * r.W + d) := h
      exact gridIndex_inj hd' hd (by omega)

end Sys2Proof.Machine
end


section
/-! The take of a transfer without a lock record (R130): what each region's transfers meet (R132, R135 to R138), handing on
and holding (R131, R141, R151, R153), and the releases of the holds (R129). Settles O5, O7, O10, O11 and O12. -/

namespace Sys2Proof.Machine

/-! ### Handing on (R131, R141, R151) -/

/-- A transfer that the C-port decides by its address: PLAIN, or a LOCKED read. -/
def DecidedByAddress (t : Transfer) : Prop := t.op = .read ∨ t.op = .lockedRead ∨ ∃ d, t.op = .write d

theorem isLockedRead_iff (t : Transfer) : t.isLockedRead = true ↔ t.op = .lockedRead := by simp [Transfer.isLockedRead]

theorem isPlainRead_iff (t : Transfer) : t.isPlainRead = true ↔ t.op = .read := by simp [Transfer.isPlainRead]

theorem isPlainWrite_iff (t : Transfer) : t.isPlainWrite = true ↔ ∃ d, t.op = .write d := by
  cases h : t.op <;> simp [Transfer.isPlainWrite, h]

theorem handOn_of_ne {t : Transfer} (h : t.op ≠ .lockedRead) (s : State) :
    s.handOn t = { s with current := some { transfer := t, stage := .forwarding } } :=
  if_neg (by rwa [isLockedRead_iff])

theorem handOn_of_lockedRead {t : Transfer} (h : t.op = .lockedRead) (s : State) :
    s.handOn t = State.openLock t { s with current := some { transfer := t, stage := .forwarding } } :=
  if_pos ((isLockedRead_iff t).2 h)

/-- A LOCKED read that may not be granted yet waits. -/
theorem openLock_waits {t : Transfer} {s : State}
    (h : s.inFlight ≠ [] ∨ s.initialLead = true ∨ s.restartDraining = true) :
    s.openLock t = { s with lock := some { initiator := t.initiator, line := lineOf t.start }, lockState := .draining } := by
  rw [State.openLock, State.grantLocked]
  refine if_neg fun hgo => ?_
  rw [Bool.and_eq_true, Bool.and_eq_true, List.isEmpty_iff, Bool.not_eq_true', Bool.not_eq_true'] at hgo
  obtain ⟨⟨hempty, hlead⟩, hdrain⟩ := hgo
  rcases h with h | h | h
  · exact h hempty
  · exact absurd (hlead.symm.trans h) (by decide)
  · exact absurd (hdrain.symm.trans h) (by decide)

/-- A LOCKED read is granted at once with nothing in flight. -/
theorem openLock_granted {t : Transfer} {s : State} (hs : s.resetAsserted = false)
    (hc : s.current = some { transfer := t, stage := .forwarding }) (hempty : s.inFlight = []) (hlead : s.initialLead = false)
    (hdrain : s.restartDraining = false) :
    s.openLock t = { s with
      lock := some { initiator := t.initiator, line := lineOf t.start }, lockState := .held
      inFlight := [{ owner := .forward, transfer := forwarded t, live := true }] } := by
  have hrequest : State.forwardRequest { s with
      lock := some { initiator := t.initiator, line := lineOf t.start }, lockState := .draining } = some (forwarded t) := by
    simp [State.forwardRequest, State.presented, hs, hc, State.inFlightFor, hempty]
  have hgo : (s.inFlight.isEmpty && !s.initialLead && !s.restartDraining) = true := by simp [hempty, hlead, hdrain]
  rw [State.openLock, State.grantLocked]
  refine (if_pos hgo).trans ?_
  rw [hrequest]
  simp [State.grant, State.issue, State.afterGrant, hempty]

theorem handOn_handedOn (t : Transfer) {s : State} (hs : s.resetAsserted = false) : HandedOn t s (s.handOn t) := by
  refine ⟨fun h => handOn_of_ne h s, fun h hwait => ?_, fun h hempty hlead hdrain => ?_⟩
  · rw [handOn_of_lockedRead h]
    exact openLock_waits hwait
  · rw [handOn_of_lockedRead h]
    exact openLock_granted hs rfl hempty hlead hdrain

theorem HandedOn.settled {t : Transfer} {s u : State} (h : HandedOn t s u) (hs : s.Settled) : u.Settled := by
  obtain ⟨hplain, hwait, hgrant⟩ := h
  by_cases hop : t.op = .lockedRead
  · by_cases hw : s.inFlight ≠ [] ∨ s.initialLead = true ∨ s.restartDraining = true
    · rw [hwait hop hw]
      exact hs
    · simp only [not_or, not_not, Bool.not_eq_true] at hw
      obtain ⟨hempty, hlead, hdrain⟩ := hw
      rw [hgrant hop hempty hlead hdrain]
      exact hs
  · rw [hplain hop]
    exact hs

theorem handOn_settled (t : Transfer) {s : State} (hs : s.Running) : (s.handOn t).Settled :=
  (handOn_handedOn t hs.1).settled hs.2

/-! ### Forwarding behind unwritten copies (R153) -/

theorem forward_of_no_copies {t : Transfer} {s : State} (h : s.copiesNoted t = []) : s.forward t = s.handOn t :=
  if_pos (by rw [h]; rfl)

theorem forward_of_copies {t : Transfer} {s : State} (h : s.copiesNoted t ≠ []) :
    s.forward t = { s with current := some { transfer := t, stage := .held (.copy (s.copiesNoted t)) } } :=
  if_neg (by rwa [List.isEmpty_iff])

theorem forward_forwardedOrHeld (t : Transfer) {s : State} (hs : s.resetAsserted = false) :
    ForwardedOrHeld t s (s.forward t) :=
  ⟨fun h => by rw [forward_of_no_copies h]; exact handOn_handedOn t hs, forward_of_copies⟩

theorem forward_settled (t : Transfer) {s : State} (hs : s.Running) : (s.forward t).Settled := by
  by_cases h : s.copiesNoted t = []
  · rw [forward_of_no_copies h]
    exact handOn_settled t hs
  · rw [forward_of_copies h]
    exact hs.2

/-- A take that classifies its transfer for forwarding. -/
theorem exec_onward {t : Transfer} {s : State} (hs : s.Running) (hc : s.current = none) (ha : t.aligned = true)
    (hroute : s.route t = s.forward t) : ∃ u, exec (.cameraTransfer t) s = .next u ∧ ForwardedOrHeld t s u :=
  ⟨_, exec_cameraTransfer_of_settled hs hc ha hroute (forward_settled t hs), forward_forwardedOrHeld t hs.1⟩

/-! ### A transfer refused (R132, R137) -/

theorem Signals.answer {wanted : Bool} {fs : List Flag} {cs : List Counter} {v w : State} (h : Signals wanted fs cs v w)
    (t : Transfer) (a : Answer) : Signals wanted fs cs (v.answer t a) (w.answer t a) := by
  obtain ⟨counters, rfl, hcounters⟩ := h
  exact ⟨counters, rfl, hcounters⟩

/-- A take that sets a flag, raises a counter and answers FAULT. -/
theorem exec_refused {f : Flag} {c : Counter} {t : Transfer} {s : State} (hs : s.Running) (hc : s.current = none)
    (ha : t.aligned = true) (hroute : s.route t = ((s.setFlag f).bump c).answer t .fault) :
    ∃ u, exec (.cameraTransfer t) s = .next u ∧ RefusedWith f c t s u := by
  have hsignals : Signals (s.someClear [f]) [f] [c] s ((s.setFlag f).bump c) := by
    simpa [State.someClear] using ((signals_nothing hs.2).setFlag f).bump c
  refine ⟨_, (exec_cameraTransfer_taken hs hc ha).trans (by rw [hroute]), ?_⟩
  exact (hsignals.answer t .fault).settled hs.2.1 hs.2.2.1

/-- A take that only answers. -/
theorem exec_answered {t : Transfer} {a : Answer} {s : State} (hs : s.Running) (hc : s.current = none)
    (ha : t.aligned = true) (hroute : s.route t = s.answer t a) :
    exec (.cameraTransfer t) s = .next { s with answers := (t, a) :: s.answers } :=
  exec_cameraTransfer_of_settled hs hc ha (hroute.trans (answer_of_free hc t a)) hs.2

/-- A take that holds its transfer. -/
theorem exec_held {t : Transfer} {reason : HoldReason} {s : State} (hs : s.Running) (hc : s.current = none)
    (ha : t.aligned = true) (hroute : s.route t = s.hold t reason) :
    exec (.cameraTransfer t) s = .next { s with current := some { transfer := t, stage := .held reason } } :=
  exec_cameraTransfer_of_settled hs hc ha hroute hs.2

/-! ### The regions of R130 -/

/-- Without a lock record a PLAIN transfer or a LOCKED read is decided by its address. -/
theorem route_of_decidedByAddress {t : Transfer} {s : State} (hl : s.lock = none) (h : DecidedByAddress t) :
    s.route t = s.routeAddress t := by
  rcases h with h | h | ⟨d, h⟩ <;> simp [State.route, State.routeUnanswered, hl, h]

theorem route_of_window {t : Transfer} {s : State} {i : SegIdx} (hl : s.lock = none) (h : DecidedByAddress t)
    (hw : s.windowOf t = some i) : s.route t = s.routeRaw i t := by
  rw [route_of_decidedByAddress hl h, State.routeAddress, hw]

theorem route_of_cellRegion {t : Transfer} {s : State} {k : StackSlot} (hl : s.lock = none) (h : DecidedByAddress t)
    (hw : s.windowOf t = none) (hcell : s.cellRegionOf t = some k) : s.route t = s.routeCell k t := by
  rw [route_of_decidedByAddress hl h, State.routeAddress, hw]
  simp only [hcell]

theorem route_of_outputRegion {t : Transfer} {s : State} {k : StackSlot} (hl : s.lock = none) (h : DecidedByAddress t)
    (hw : s.windowOf t = none) (hcell : s.cellRegionOf t = none) (hout : s.outputRegionOf t = some k) :
    s.route t = s.routeOutput k t := by
  rw [route_of_decidedByAddress hl h, State.routeAddress, hw]
  simp only [hcell, hout]

/-- Off the windows and the regions of the stacks, the control area decides. -/
theorem route_of_control {t : Transfer} {s : State} (hl : s.lock = none) (h : DecidedByAddress t)
    (hw : s.windowOf t = none) (hcell : s.cellRegionOf t = none) (hout : s.outputRegionOf t = none) :
    s.route t = if s.inControlLine t then s.routeControl t else if s.inTables t then s.routeTables t else s.forward t := by
  rw [route_of_decidedByAddress hl h, State.routeAddress, hw]
  simp only [hcell, hout]

/-! ### The regions in plain terms (R2, R12, R98, R135, R136, R156) -/

/-- A byte of the transfer lies in the region; an ACKNOWLEDGE has none. -/
theorem touches_iff (t : Transfer) (base size : Nat) :
    t.touches base size = true ↔ (∀ level, t.op ≠ .acknowledge level)
      ∧ ∃ x, t.addr.toNat ≤ x ∧ x < t.addr.toNat + t.size.bytes ∧ base ≤ x ∧ x < base + size := by
  rw [Transfer.touches, overlaps_iff]
  cases hop : t.op with
  | acknowledge level =>
    have hlen : t.len = 0 := by simp [Transfer.len, hop]
    rw [hlen]
    exact ⟨fun ⟨x, hlo, hhi, _⟩ => absurd hhi (Nat.not_lt.2 hlo), fun ⟨h, _⟩ => absurd rfl (h level)⟩
  | _ => simp [Transfer.len, hop, Transfer.start]

theorem find?_finRange_iff {n : Nat} {p : Fin n → Bool} {i : Fin n} :
    (List.finRange n).find? p = some i ↔ p i = true ∧ ∀ j, j < i → p j = false := by
  refine ⟨fun h => ⟨List.find?_some h, fun j hj => ?_⟩, fun h => find?_finRange_eq_some h.1 h.2⟩
  obtain ⟨-, m, hm, hi, hbelow⟩ := List.find?_eq_some_iff_getElem.1 h
  have hval : m = i.1 := by
    rw [← hi, List.getElem_finRange]
    rfl
  have hj' := hbelow j.1 (by omega)
  rw [List.getElem_finRange] at hj'
  simpa using hj'

theorem find?_slots_iff {p : StackSlot → Bool} {k : StackSlot} :
    [StackSlot.zero, .one].find? p = some k ↔ p k = true ∧ (k = .one → ¬ p .zero = true) := by
  cases h0 : p .zero <;> cases h1 : p .one <;> cases k <;> simp [h0, h1]

theorem copiesNoted_of_acknowledge {t : Transfer} {level : BitVec 3} (h : t.op = .acknowledge level) (s : State) :
    s.copiesNoted t = [] := by
  simp [State.copiesNoted, Transfer.isLockedRead, Transfer.isPlainRead, Transfer.isPlainWrite, h]

/-- The unwritten copies over some bytes: waiting in intake, or in flight (R153). -/
theorem mem_unwrittenOver (s : State) (slot a la : Nat) :
    slot ∈ s.unwrittenOver a la
      ↔ (∃ sl ∈ s.intake, sl.tag = slot ∧ sl.copy = .waiting ∧ overlaps sl.addr sl.size.bytes a la = true)
        ∨ ∃ f ∈ s.inFlight, f.owner = .copy slot ∧ overlaps f.transfer.addr f.transfer.size.bytes a la = true := by
  have hflight : (∃ f ∈ s.inFlight, f.copyOver a la = true ∧ (match f.owner with
      | .copy slot => some slot
      | _ => none) = some slot)
      ↔ ∃ f ∈ s.inFlight, f.owner = .copy slot ∧ overlaps f.transfer.addr f.transfer.size.bytes a la = true := by
    refine exists_congr fun f => and_congr_right fun _ => ?_
    cases ho : f.owner <;> simp [InFlight.copyOver, ho, and_comm]
  rw [State.unwrittenOver, List.mem_append, List.mem_filterMap, ← hflight]
  simp only [List.mem_map, List.mem_filter, Bool.and_eq_true, beq_iff_eq, and_assoc]
  refine or_congr (exists_congr fun sl => ?_) Iff.rfl
  tauto

theorem copiesNoted_eq {t : Transfer} {s : State} {a len : Nat} (h : DecidedByAddress t)
    (hspan : (a, len) = if t.op = .lockedRead then (lineOf t.start, 32) else (t.start, t.len)) :
    s.copiesNoted t = s.unwrittenOver a len := by
  rcases h with h | h | ⟨d, h⟩ <;> simp_all [State.copiesNoted, Transfer.isLockedRead, Transfer.isPlainRead, Transfer.isPlainWrite]

theorem copiesNoted_of_other {t : Transfer} (h : ¬ DecidedByAddress t) (s : State) : s.copiesNoted t = [] := by
  simp only [DecidedByAddress, not_or] at h
  obtain ⟨hread, hlocked, hwrite⟩ := h
  rw [State.copiesNoted, if_neg (by rwa [isLockedRead_iff]), if_neg]
  rw [Bool.or_eq_true, isPlainRead_iff, isPlainWrite_iff, not_or]
  exact ⟨hread, hwrite⟩

end Sys2Proof.Machine
end


section
/-! What the take of a transfer makes of each region, obligation by obligation (R130 to R138), and the releases of the holds
(R129). Settles O5, O7, O10, O11 and O12. -/

namespace Sys2Proof.Machine

/-! ### Ordinary transfers (R130, R131) -/

/-- A transfer that touches nothing of the part, or an ACKNOWLEDGE that the part does not answer, is to be forwarded. -/
theorem route_of_ordinary {t : Transfer} {s : State} (hl : s.lock = none)
    (h : (DecidedByAddress t ∧ s.Ordinary t) ∨ ∃ level, t.op = .acknowledge level ∧ s.answersLevel level = false) :
    s.route t = s.forward t := by
  rcases h with ⟨hop, hw, hcell, hout, hline, htables⟩ | ⟨level, hop, hno⟩
  · rw [route_of_control hl hop hw hcell hout, hline, htables]
    rfl
  · simp [State.route, State.routeUnanswered, hop, hno, hl]

theorem mem_copiesNoted {t : Transfer} {s : State} {slot a len : Nat}
    (hspan : (a, len) = if t.op = .lockedRead then (lineOf t.start, 32) else (t.start, t.len)) :
    slot ∈ s.copiesNoted t ↔ DecidedByAddress t
      ∧ ((∃ sl ∈ s.intake, sl.tag = slot ∧ sl.copy = .waiting ∧ overlaps sl.addr sl.size.bytes a len = true)
        ∨ ∃ f ∈ s.inFlight, f.owner = .copy slot ∧ overlaps f.transfer.addr f.transfer.size.bytes a len = true) := by
  by_cases h : DecidedByAddress t
  · rw [copiesNoted_eq h hspan, mem_unwrittenOver, and_iff_right h]
  · simp [copiesNoted_of_other h, h]

/-- Settles O5. -/
theorem ordinaryTransferIsForwardedOrHeldBehindCopies : Obligations.OrdinaryTransferIsForwardedOrHeldBehindCopies := by
  refine ⟨fun t s hs hfree ha h => ?_, fun t s slot a len hspan => mem_copiesNoted hspan, ?_⟩
  · obtain ⟨hc, hl⟩ := hfree
    have hroute : s.route t = s.forward t := route_of_ordinary hl h
    obtain ⟨u, hexec, hfree, hheld⟩ := exec_onward hs hc ha hroute
    exact ⟨fun hnone => ⟨u, hexec, hfree hnone⟩, fun hsome => hexec.trans (congrArg _ (hheld hsome))⟩
  · intro t s bytes meets window region control
    have hbytes : t.size.bytes = bytes := by
      cases hsize : t.size <;> simp only [bytes, hsize] <;> rfl
    have hmeets (base size : Nat) : t.touches base size = true ↔ meets base size := by
      rw [touches_iff, hbytes]
    have hwindow (i : SegIdx) : s.segs[i].touchedBy t = true ↔ window i := by
      rw [SegRecord.touchedBy, Bool.and_eq_true, hmeets, windowSize_eq]
    have hregion (base : StackRecord → Nat) (perPixel : Nat) (k : StackSlot) :
        ((s.stack k).state != .empty
          && t.touches (base (s.stack k)) ((s.stack k).width * (s.stack k).height * perPixel)) = true
        ↔ region base perPixel k := by
      rw [Bool.and_eq_true, bne_iff_ne, hmeets]
    refine ⟨fun i => ?_, fun k => ?_, fun k => ?_, hmeets _ _, ?_⟩
    · rw [State.windowOf, find?_finRange_iff, hwindow]
      simp only [← Bool.not_eq_true, hwindow]
    · rw [State.cellRegionOf, find?_slots_iff]
      exact and_congr (hregion _ _ k) (imp_congr_right fun _ => not_congr (hregion _ _ _))
    · rw [State.outputRegionOf, find?_slots_iff]
      exact and_congr (hregion _ _ k) (imp_congr_right fun _ => not_congr (hregion _ _ _))
    · rw [State.inTables, Bool.or_eq_true]
      exact or_congr (hmeets _ _) (hmeets _ _)

/-! ### Raw windows (R132, R133) -/

theorem allows_iff (w : Writer) (initiator : BitVec 3) :
    w.allows initiator = true ↔ w = .any ∨ w = .only initiator.toNat := by
  cases w <;> simp [Writer.allows]

theorem routeRaw_of_read {t : Transfer} (h : t.op = .read) (i : SegIdx) (s : State) : s.routeRaw i t = s.forward t :=
  if_pos ((isPlainRead_iff t).2 h)

theorem routeRaw_of_lockedRead {t : Transfer} (h : t.op = .lockedRead) (i : SegIdx) (s : State) :
    s.routeRaw i t = s.malformed.answer t .fault := by
  rw [State.routeRaw, if_neg (by simp [isPlainRead_iff, h]), if_pos ((isLockedRead_iff t).2 h)]

/-- The rows of R132 for a PLAIN write, in their order. -/
theorem routeRaw_of_write {t : Transfer} {d : Line} (h : t.op = .write d) (i : SegIdx) (s : State) :
    s.routeRaw i t
      = if t.size = .byte then s.malformed.answer t .fault
        else if t.size = .line ∧ t.inside s.segs[i].rawBase s.segs[i].windowSize = false then s.answer t .split
        else if s.segs[i].writer.allows t.initiator = false then s.malformed.answer t .fault
        else if s.intake.length < 8 then s.takeRaw i t
        else s.hold t .intakeFull := by
  rw [State.routeRaw, if_neg (by simp [isPlainRead_iff, h]), if_neg (by simp [isLockedRead_iff, h]), Config.intakeCapacity]

/-- The row of a raw write that may be taken (R133). -/
theorem routeRaw_of_taken {t : Transfer} {d : Line} {i : SegIdx} {s : State} (h : t.op = .write d)
    (hsize : t.size ≠ .byte) (hin : ¬ (t.size = .line ∧ t.inside s.segs[i].rawBase s.segs[i].windowSize = false))
    (hallows : s.segs[i].writer.allows t.initiator = true) (hroom : s.intake.length < 8) :
    s.routeRaw i t = s.takeRaw i t := by
  rw [routeRaw_of_write h, if_neg hsize, if_neg hin, if_neg (ne_false_of_eq_true hallows), if_pos hroom]

/-- The visit of a raw write's pixels leaves the terminations given. -/
theorem visitPixels_answers (i : SegIdx) (l : List (Nat × Nat)) (s : State) :
    (s.visitPixels i l).1.answers = s.answers := by
  rw [(visitPixels_moves i l s).frame]

/-- A raw write taken is given DONE at once. -/
theorem takeRaw_answers (i : SegIdx) (t : Transfer) (s : State) :
    (s.takeRaw i t).answers = (t, .done 0) :: s.answers := by
  rw [← visitPixels_answers i (pixelsOf s.segs[i] t.start t.size t.data) s]
  rfl

theorem takeRaw_current (i : SegIdx) (t : Transfer) (s : State) : (s.takeRaw i t).current = none := rfl

/-- Settles O7. -/
theorem rawWindowTransfersAreDecidedInOrder : Obligations.RawWindowTransfersAreDecidedInOrder := by
  intro t i s hs hfree ha hw r straddles
  obtain ⟨hc, hl⟩ := hfree
  have hroute (h : DecidedByAddress t) : s.route t = s.routeRaw i t := route_of_window hl h hw
  refine ⟨decide_eq_true_iff, allows_iff _ _, fun hop hnone => ?_, fun hop hsome => ?_, fun hop => ?_, fun d hop => ?_⟩
  · have hforward := (hroute (.inl hop)).trans (routeRaw_of_read hop i s)
    rw [forward_of_no_copies hnone, handOn_of_ne (by rw [hop]; decide)] at hforward
    exact exec_cameraTransfer_of_settled hs hc ha hforward hs.2
  · exact exec_held hs hc ha (((hroute (.inl hop)).trans (routeRaw_of_read hop i s)).trans (forward_of_copies hsome))
  · exact exec_refused hs hc ha ((hroute (.inr (.inl hop))).trans (routeRaw_of_lockedRead hop i s))
  · have hrow := (hroute (.inr (.inr ⟨d, hop⟩))).trans (routeRaw_of_write hop i s)
    refine ⟨fun hbyte => ?_, fun hline => ?_, fun hsize hin hno => ?_, fun hsize hin hallows => ⟨fun hroom => ?_, fun hfull => ?_⟩⟩
    · exact exec_refused hs hc ha (hrow.trans (if_pos hbyte))
    · rw [if_neg (by rw [hline.1]; decide), if_pos hline] at hrow
      exact exec_answered hs hc ha hrow
    · rw [if_neg hsize, if_neg hin, if_pos hno] at hrow
      exact exec_refused hs hc ha hrow
    · have htake := (hroute (.inr (.inr ⟨d, hop⟩))).trans (routeRaw_of_taken hop hsize hin hallows hroom)
      refine ⟨_, (exec_cameraTransfer_taken hs hc ha).trans (by rw [htake]), ?_⟩
      rw [settleRequests_answers, takeRaw_answers]
    · rw [if_neg hsize, if_neg hin, if_neg (ne_false_of_eq_true hallows), if_neg hfull.not_gt] at hrow
      exact exec_held hs hc ha hrow

/-! ### The regions of a stack (R137, R138) -/

theorem routeCell_of_blocked {t : Transfer} (h : t.op ≠ .read) (k : StackSlot) (s : State) :
    s.routeCell k t = s.blocked.answer t .fault :=
  if_neg (by rwa [isPlainRead_iff])

/-- A PLAIN read of a cell region, by the state of the stack (R137). -/
theorem routeCell_of_read {t : Transfer} (h : t.op = .read) (k : StackSlot) (s : State) :
    s.routeCell k t = (match (s.stack k).state with
      | .clearing => if (s.stack k).cellRow t.start < (s.stack k).cursor then s.forward t else s.answer t .retry
      | .openState =>
        if (s.entriesNoted (lineOf t.start)).isEmpty then s.forward t
        else s.hold t (.placement (s.entriesNoted (lineOf t.start)))
      | _ => s.forward t) :=
  if_pos ((isPlainRead_iff t).2 h)

theorem routeOutput_of_blocked {t : Transfer} {k : StackSlot} {s : State} (hstate : (s.stack k).state = .rendering)
    (h : t.op ≠ .read) : s.routeOutput k t = s.blocked.answer t .fault := by
  rw [State.routeOutput, if_pos hstate, if_neg (by rwa [isPlainRead_iff])]

theorem routeOutput_of_read {t : Transfer} {k : StackSlot} {s : State} (hstate : (s.stack k).state = .rendering)
    (h : t.op = .read) :
    s.routeOutput k t = if (s.stack k).outputRow t.start < (s.stack k).cursor then s.forward t else s.answer t .retry := by
  rw [State.routeOutput, if_pos hstate, if_pos ((isPlainRead_iff t).2 h)]

theorem ne_read_of_blocked {t : Transfer} (h : t.op = .lockedRead ∨ ∃ d, t.op = .write d) : t.op ≠ .read := by
  rcases h with h | ⟨d, h⟩ <;> rw [h] <;> exact fun h => nomatch h

/-- Settles O10. -/
theorem stackRegionTransfers : Obligations.StackRegionTransfers := by
  refine ⟨?_, ?_⟩
  · intro t k s hs hfree ha hw hcell row noted onward
    obtain ⟨hc, hl⟩ := hfree
    have hroute (h : DecidedByAddress t) : s.route t = s.routeCell k t := route_of_cellRegion hl h hw hcell
    have hnoted : s.entriesNoted (lineOf t.start) = noted := by
      rw [State.entriesNoted]
      exact congrArg _ (List.filter_congr fun e _ => rfl)
    refine ⟨fun hop => ?_, fun hop => ?_⟩
    · exact exec_refused hs hc ha ((hroute (.inr hop)).trans (routeCell_of_blocked (ne_read_of_blocked hop) k s))
    · have hread := (hroute (.inl hop)).trans (routeCell_of_read hop k s)
      refine ⟨fun hstate hrow => ?_, fun hstate hrow => ?_, fun hstate hnone => ?_, fun hstate hsome => ?_, fun hstate => ?_⟩
      · rw [hstate] at hread
        exact exec_onward hs hc ha (hread.trans (if_pos hrow))
      · rw [hstate] at hread
        exact exec_answered hs hc ha (hread.trans (if_neg (Nat.not_lt.2 hrow)))
      · rw [hstate] at hread
        exact exec_onward hs hc ha (hread.trans (if_pos (by rw [hnoted, hnone]; rfl)))
      · rw [hstate] at hread
        rw [← hnoted]
        exact exec_held hs hc ha (hread.trans (if_neg (by rwa [hnoted, List.isEmpty_iff])))
      · rcases hstate with hstate | hstate <;> rw [hstate] at hread <;> exact exec_onward hs hc ha hread
  · intro t k s hs hfree ha hw hcell hout row onward
    obtain ⟨hc, hl⟩ := hfree
    have hroute (h : DecidedByAddress t) : s.route t = s.routeOutput k t := route_of_outputRegion hl h hw hcell hout
    refine ⟨fun hstate hop => ?_, fun hstate hop hrow => ?_, fun hstate hop hrow => ?_, fun hstate hop => ?_⟩
    · exact exec_refused hs hc ha ((hroute (.inr hop)).trans (routeOutput_of_blocked hstate (ne_read_of_blocked hop)))
    · exact exec_answered hs hc ha
        (((hroute (.inl hop)).trans (routeOutput_of_read hstate hop)).trans (if_neg (Nat.not_lt.2 hrow)))
    · exact exec_onward hs hc ha (((hroute (.inl hop)).trans (routeOutput_of_read hstate hop)).trans (if_pos hrow))
    · exact exec_onward hs hc ha ((hroute hop).trans (if_neg hstate))

/-! ### The control area (R134 to R136) -/

/-- A transfer of the command-word line that is no LINE write and no word of the part is to be forwarded. -/
theorem routeControl_of_other {t : Transfer} {s : State}
    (h : t.op = .read ∨ t.op = .lockedRead ∨ t.size = .byte ∨ t.size = .half
      ∨ t.size = .word ∧ t.start ≠ s.controlBase ∧ t.start ≠ s.controlBase + 4) : s.routeControl t = s.forward t := by
  by_cases hwrite : t.isPlainWrite = true
  · obtain ⟨d, hd⟩ := (isPlainWrite_iff t).1 hwrite
    have hsize : t.size = .byte ∨ t.size = .half ∨ t.size = .word ∧ t.start ≠ s.controlBase ∧ t.start ≠ s.controlBase + 4 := by
      rcases h with h | h | h
      · rw [hd] at h
        cases h
      · rw [hd] at h
        cases h
      · exact h
    rcases hsize with h | h | ⟨h, h0, h4⟩ <;>
      simp_all [State.routeControl, commandWordOffset, ackWordOffset]
  · simp [State.routeControl, hwrite]

theorem routeTables_of_held {t : Transfer} {s : State} (hexec : s.executing = true)
    (h : t.op = .lockedRead ∨ ∃ d, t.op = .write d) : s.routeTables t = s.hold t .command := by
  refine if_pos ?_
  rw [hexec, Bool.true_and, Bool.or_eq_true, isPlainWrite_iff, isLockedRead_iff]
  exact h.symm

theorem routeTables_of_forwarded {t : Transfer} {s : State} (h : s.executing = true → t.op = .read) :
    s.routeTables t = s.forward t := by
  refine if_neg fun hheld => ?_
  rw [Bool.and_eq_true, Bool.or_eq_true, isPlainWrite_iff, isLockedRead_iff, h (by simp_all)] at hheld
  obtain ⟨-, ⟨d, hd⟩ | hd⟩ := hheld <;> cases hd

/-- Settles O11. -/
theorem controlAreaTransfers : Obligations.ControlAreaTransfers := by
  intro t s hs hfree ha hw hcell hout taken onward
  obtain ⟨hc, hl⟩ := hfree
  have hroute (h : DecidedByAddress t) := route_of_control hl h hw hcell hout
  refine ⟨fun hline hop hsize => ?_, fun hline hop hother => ?_, fun hline htables hexec hop => ?_,
    fun hline htables hop hread => ?_⟩
  · refine exec_answered hs hc ha ((hroute (.inr (.inr hop))).trans ((if_pos hline).trans (if_pos ?_)))
    exact ⟨(isPlainWrite_iff t).2 hop, hsize⟩
  · exact exec_onward hs hc ha ((hroute hop).trans ((if_pos hline).trans (routeControl_of_other hother)))
  · rw [hline, htables] at hroute
    exact exec_held hs hc ha ((hroute (.inr hop)).trans (routeTables_of_held hexec hop))
  · rw [hline, htables] at hroute
    exact exec_onward hs hc ha ((hroute hop).trans (routeTables_of_forwarded hread))

/-! ### The releases of the holds (R129) -/

section
variable {t : Transfer} {noted : List Nat} {s : State}

theorem exec_intakeHoldRelease (hs : s.Running) (hc : s.current = some { transfer := t, stage := .held .intakeFull }) :
    exec .intakeHoldRelease s
      = .next (if s.intake.length < 8 then State.route t { s with current := none } else s).settleRequests := by
  change execIntakeHoldRelease s = _
  rw [execIntakeHoldRelease, act_of_released hs.1]
  simp only [hc]
  rfl

theorem exec_commandHoldRelease (hs : s.Running) (hc : s.current = some { transfer := t, stage := .held .command }) :
    exec .commandHoldRelease s = .next (if s.executing then s else s.forward t).settleRequests := by
  change execCommandHoldRelease s = _
  rw [execCommandHoldRelease, act_of_released hs.1]
  simp only [hc]

theorem exec_placementHoldRelease (hs : s.Running)
    (hc : s.current = some { transfer := t, stage := .held (.placement noted) }) :
    exec .placementHoldRelease s
      = .next (if noted.any fun tag => (s.entry? tag).isSome then s else s.handOn t).settleRequests := by
  change execPlacementHoldRelease s = _
  rw [execPlacementHoldRelease, act_of_released hs.1]
  simp only [hc]

theorem exec_copyHoldRelease (hs : s.Running) (hc : s.current = some { transfer := t, stage := .held (.copy noted) }) :
    exec .copyHoldRelease s = .next (if noted.any s.copyUnwritten then s else s.handOn t).settleRequests := by
  change execCopyHoldRelease s = _
  rw [execCopyHoldRelease, act_of_released hs.1]
  simp only [hc]

theorem executing_iff : s.executing = true ↔ s.engine ≠ .idle := by
  cases h : s.engine <;> simp [State.executing, h]

/-- Some entry noted is still queued. -/
theorem any_entry?_isSome : (noted.any fun tag => (s.entry? tag).isSome) = true ↔ ∃ e ∈ s.entries, e.tag ∈ noted := by
  simp only [List.any_eq_true, State.entry?, List.find?_isSome, beq_iff_eq]
  exact ⟨fun ⟨tag, htag, e, he, heq⟩ => ⟨e, he, heq ▸ htag⟩, fun ⟨e, he, htag⟩ => ⟨_, htag, e, he, rfl⟩⟩

end

/-- A release that hands its transfer on. -/
theorem handOn_released (t : Transfer) {s : State} (hs : s.Running) :
    ∃ u, (.next (s.handOn t).settleRequests : Host.Outcome State Fault Refusal) = .next u ∧ HandedOn t s u :=
  ⟨_, next_settleRequests (handOn_settled t hs), handOn_handedOn t hs.1⟩

/-- Settles O12: the four holds, each with its condition met and not met. -/
theorem holdsAreReleased : Obligations.HoldsAreReleased := by
  intro t noted s hs
  refine ⟨fun hc ha => ?_, fun hc => ?_, fun hc => ?_, fun hc => ?_⟩
  · have hexec := exec_intakeHoldRelease hs hc
    refine ⟨fun hroom => ?_, fun d i hroom hl hop hw hsize hin hallows => ?_, fun hfull => ?_⟩
    · rw [hexec, if_pos hroom]
      exact (exec_cameraTransfer_taken (s := { s with current := none }) hs rfl ha).symm
    · have htake : State.route t { s with current := none } = State.takeRaw i t { s with current := none } :=
        (route_of_window (s := { s with current := none }) hl (.inr (.inr ⟨d, hop⟩)) hw).trans
          (routeRaw_of_taken hop hsize (fun h => absurd (hin.symm.trans h.2) (by decide)) hallows hroom)
      rw [if_pos hroom, htake] at hexec
      exact ⟨_, hexec, by rw [settleRequests_current, takeRaw_current], by rw [settleRequests_answers, takeRaw_answers]⟩
    · rw [hexec, if_neg hfull.not_gt]
      exact next_settleRequests hs.2
  · have hexec := exec_commandHoldRelease hs hc
    refine ⟨fun hidle hnone => ?_, fun hidle hsome => ?_, fun hbusy => ?_⟩
    · rw [hexec, if_neg (by simp [executing_iff, hidle]), forward_of_no_copies hnone]
      exact handOn_released t hs
    · rw [hexec, if_neg (by simp [executing_iff, hidle]), next_settleRequests (forward_settled t hs),
        forward_of_copies hsome]
    · rw [hexec, if_pos (executing_iff.2 hbusy)]
      exact next_settleRequests hs.2
  · have hexec := exec_placementHoldRelease hs hc
    refine ⟨fun hgone => ?_, fun hleft => ?_⟩
    · rw [hexec, if_neg fun h => by
        obtain ⟨e, he, hmem⟩ := any_entry?_isSome.1 h
        exact hgone e he hmem]
      exact handOn_released t hs
    · rw [hexec, if_pos (any_entry?_isSome.2 hleft)]
      exact next_settleRequests hs.2
  · have hexec := exec_copyHoldRelease hs hc
    refine ⟨fun hgone => ?_, fun hleft => ?_⟩
    · rw [hexec, if_neg (by simpa using hgone)]
      exact handOn_released t hs
    · rw [hexec, if_pos (List.any_eq_true.2 hleft)]
      exact next_settleRequests hs.2

end Sys2Proof.Machine
end


section
/-! The visit of a raw write's pixels (R34, R50): the progress records it leaves alone, the pixels and marks it makes, and
what it does in an IDLE segment (R35, R41). -/

namespace Sys2Proof.Machine

/-! ### The other segments' progress records (R34) -/

/-- Only the progress record of segment `i` may differ. -/
def KeepsOthers (i : SegIdx) (s u : State) : Prop := ∀ j : SegIdx, j ≠ i → u.progress[j] = s.progress[j]

section
variable {i : SegIdx} {s u w : State}

theorem KeepsOthers.trans (h : KeepsOthers i s u) (g : KeepsOthers i u w) : KeepsOthers i s w :=
  fun j hj => (g j hj).trans (h j hj)

theorem keepsOthers_of_progress (h : u.progress = s.progress) : KeepsOthers i s u := fun j _ => by rw [h]

end

theorem setProgress_keepsOthers (i : SegIdx) (p : Progress) (s : State) : KeepsOthers i s (s.setProgress i p) :=
  fun _ hj => progress_setProgress_of_ne hj s p

theorem testDraining_progress (id : Nat) (s : State) : (s.testDraining id).progress = s.progress := by
  unfold State.testDraining
  split
  · rfl
  · split
    · rw [testDone_progress]
      rfl
    · rfl

theorem endSegments_progress (id : Nat) (m : BitVec 128) (reason : Option CutReason) (s : State) :
    (s.endSegments id m reason).progress = s.progress :=
  testDraining_progress id _

theorem beginReading_progress (id : Nat) (s : State) : (s.beginReading id).progress = s.progress := by
  unfold State.beginReading
  split
  · rfl
  · split <;> rfl

theorem takePixel_keepsOthers (i : SegIdx) (id : Nat) (cls : PixelClass) (s : State) :
    KeepsOthers i s (s.takePixel i id cls) := by
  have hcount : KeepsOthers i s
      (State.countPosition i ((s.beginReading id).updateExposure id (Exposure.takeOne cls))) :=
    (keepsOthers_of_progress (beginReading_progress id s)).trans (setProgress_keepsOthers i _ _)
  unfold State.takePixel
  dsimp only
  split
  · exact (hcount.trans (keepsOthers_of_progress (endSegments_progress ..))).trans (setProgress_keepsOthers i _ _)
  · exact hcount

theorem shortFrame_keepsOthers (i : SegIdx) (id : Nat) (s : State) : KeepsOthers i s (s.shortFrame i id) :=
  (keepsOthers_of_progress (u := (s.endSegments id (segMask i) (some .short)).bump .shortFrames)
    (endSegments_progress ..)).trans (setProgress_keepsOthers i _ _)

theorem offerFirst_keepsOthers (i : SegIdx) (cls : PixelClass) (s : State) : KeepsOthers i s (s.offerFirst i cls).1 := by
  unfold State.offerFirst
  split
  · exact (setProgress_keepsOthers i _ s).trans (takePixel_keepsOthers i _ cls _)
  · exact keepsOthers_of_progress (orphan_progress s)

theorem offer_keepsOthers (i : SegIdx) (p : Nat) (cls : PixelClass) (s : State) : KeepsOthers i s (s.offer i p cls).1 := by
  unfold State.offer
  split
  · exact keepsOthers_of_progress (orphan_progress s)
  · split
    · exact offerFirst_keepsOthers i cls s
    · exact keepsOthers_of_progress (orphan_progress s)
  · split
    · exact (shortFrame_keepsOthers i _ s).trans (offerFirst_keepsOthers i cls _)
    · exact takePixel_keepsOthers i _ cls s

theorem gather_keepsOthers (i : SegIdx) (row raw : Nat) (s : State) : KeepsOthers i s (s.gather i row raw) := by
  unfold State.gather
  split
  · exact setProgress_keepsOthers i _ s
  · split
    · exact setProgress_keepsOthers i _ s
    · exact (keepsOthers_of_progress (u := s.loseRow) (by simp [State.loseRow])).trans (setProgress_keepsOthers i _ _)

theorem visitPixel_keepsOthers (i : SegIdx) (p raw : Nat) (s : State) : KeepsOthers i s (s.visitPixel i p raw).1 := by
  unfold State.visitPixel
  split
  · exact keepsOthers_of_progress (orphan_progress s)
  · exact (offer_keepsOthers i p _ s).trans (gather_keepsOthers i _ raw _)
  · exact offer_keepsOthers i p _ s

theorem visitPixels_keepsOthers (i : SegIdx) : ∀ (l : List (Nat × Nat)) (s : State), KeepsOthers i s (s.visitPixels i l).1
  | [], _ => fun _ _ => rfl
  | (p, raw) :: rest, s => (visitPixel_keepsOthers i p raw s).trans (visitPixels_keepsOthers i rest _)

/-! ### The pixels and the marks of a visit (R34, R59) -/

/-- One pixel of the visit, as the state it leaves and the exposure it was taken for, the segment's record given. -/
def State.markPixel (i : SegIdx) (r : SegRecord) (p raw : Nat) (s : State) : State × Option Nat :=
  match classOf r p with
  | .overrun => (s.orphan, none)
  | .overscan row => ((s.offer i p (.overscan row)).1.gather i row raw, (s.offer i p (.overscan row)).2)
  | cls => ((s.offer i p cls).1, (s.offer i p cls).2)

/-- A visit leaves the segment table. -/
theorem visitPixel_segs (i : SegIdx) (p raw : Nat) (s : State) : (s.visitPixel i p raw).1.segs = s.segs := by
  rw [(visitPixel_moves i p raw s).frame]

theorem visitPixel_eq {i : SegIdx} {r : SegRecord} {s : State} (hr : s.segs[i] = r) (p raw : Nat) :
    s.visitPixel i p raw = ((s.markPixel i r p raw).1,
      { raw := raw, cls := classOf r p, taken := (s.markPixel i r p raw).2.isSome }, (s.markPixel i r p raw).2) := by
  subst hr
  unfold State.visitPixel State.markPixel
  cases classOf s.segs[i] p <;> rfl

/-- The visit over a write's pixels, marks in order. -/
def State.markPixels (i : SegIdx) (r : SegRecord) : List (Nat × Nat) → State → State × List (Option Nat)
  | [], s => (s, [])
  | (p, raw) :: rest, s =>
    (((s.markPixel i r p raw).1.markPixels i r rest).1,
      (s.markPixel i r p raw).2 :: ((s.markPixel i r p raw).1.markPixels i r rest).2)

/-- A visit, told by its marks: the state it leaves, its pixels, and the exposure they were taken for. -/
theorem visitPixels_marks {i : SegIdx} {r : SegRecord} :
    ∀ (l : List (Nat × Nat)) {s : State}, s.segs[i] = r →
      (s.visitPixels i l).1 = (s.markPixels i r l).1
      ∧ (s.visitPixels i l).2.1.map (·.raw) = l.map (·.2)
      ∧ (s.visitPixels i l).2.1.map (·.cls) = l.map (fun x => classOf r x.1)
      ∧ (s.visitPixels i l).2.1.map (·.taken) = (s.markPixels i r l).2.map (·.isSome)
      ∧ (s.visitPixels i l).2.2 = (s.markPixels i r l).2.findSome? id
  | [], _, _ => ⟨rfl, rfl, rfl, rfl, rfl⟩
  | (p, raw) :: rest, s, hr => by
    have hone := visitPixel_eq hr p raw
    have hsegs : (s.markPixel i r p raw).1.segs[i] = r := by
      have hkept := visitPixel_segs i p raw s
      rw [hone] at hkept
      exact (congrArg (·[i]) hkept).trans hr
    obtain ⟨hstate, hraw, hcls, htaken, hexposure⟩ := visitPixels_marks rest hsegs
    have hvisit : s.visitPixels i ((p, raw) :: rest)
        = (((s.markPixel i r p raw).1.visitPixels i rest).1,
          { raw := raw, cls := classOf r p, taken := (s.markPixel i r p raw).2.isSome }
            :: ((s.markPixel i r p raw).1.visitPixels i rest).2.1,
          (s.markPixel i r p raw).2 <|> ((s.markPixel i r p raw).1.visitPixels i rest).2.2) := by
      rw [State.visitPixels, hone]
    rw [hvisit, State.markPixels]
    refine ⟨hstate, by simp [hraw], by simp [hcls], by simp [htaken], ?_⟩
    rw [List.findSome?_cons, hexposure]
    cases (s.markPixel i r p raw).2 <;> rfl

/-- The marks, told as a fold over the numbers of the pixels. -/
theorem markPixels_eq_foldl {i : SegIdx} {r : SegRecord} (index value : Nat → Nat)
    (visit : State × List (Option Nat) → Nat → State × List (Option Nat))
    (hvisit : ∀ a j, visit a j
      = ((a.1.markPixel i r (index j) (value j)).1, a.2 ++ [(a.1.markPixel i r (index j) (value j)).2])) :
    ∀ (js : List Nat) (s : State) (marks : List (Option Nat)),
      js.foldl visit (s, marks)
        = ((s.markPixels i r (js.map fun j => (index j, value j))).1,
          marks ++ (s.markPixels i r (js.map fun j => (index j, value j))).2)
  | [], _, marks => by simp [State.markPixels]
  | j :: js, s, marks => by
    rw [List.foldl_cons, hvisit, markPixels_eq_foldl index value visit hvisit js, List.map_cons, State.markPixels,
      List.append_assoc, List.singleton_append]

/-! ### A visit in an IDLE segment (R35, R41) -/

/-- One more orphan, or `n`: what a visit in an IDLE segment leaves. -/
structure OrphansOnly (i : SegIdx) (n : Nat) (s u : State) : Prop where
  queue : u.queue = s.queue
  retired : u.retired = s.retired
  stack : ∀ k, u.stack k = s.stack k
  state : u.progress[i].state = .idle
  count : u.progress[i].count = s.progress[i].count
  counter : u.counter .orphanPixels = saturatingSucc^[n] (s.counter .orphanPixels)
  flag : 0 < n → u.flagSet .orphanPixels = true

section
variable {i : SegIdx} {m n : Nat} {s u w : State}

theorem OrphansOnly.trans (h : OrphansOnly i m s u) (g : OrphansOnly i n u w)
    (hkeep : u.flagSet .orphanPixels = true → w.flagSet .orphanPixels = true) : OrphansOnly i (n + m) s w where
  queue := g.queue.trans h.queue
  retired := g.retired.trans h.retired
  stack k := (g.stack k).trans (h.stack k)
  state := g.state
  count := g.count.trans h.count
  counter := by rw [g.counter, h.counter, Function.iterate_add_apply]
  flag hpos := by
    rcases Nat.eq_zero_or_pos n with rfl | hn
    · exact hkeep (h.flag (by omega))
    · exact g.flag hn

end

/-- A flag set stays set over another's setting event. -/
theorem flagSet_setFlag_of_set {f : Flag} (g : Flag) {s : State} (h : s.flagSet f = true) :
    (s.setFlag g).flagSet f = true := by
  unfold State.setFlag
  split
  · exact h
  · rw [State.flagSet] at h
    simp [State.flagSet, h]

theorem orphan_orphansOnly {i : SegIdx} {s : State} (h : s.progress[i].state = .idle) : OrphansOnly i 1 s s.orphan where
  queue := by simp [State.orphan]
  retired := by simp [State.orphan]
  stack k := by cases k <;> simp [State.orphan, State.stack]
  state := by rw [orphan_progress, h]
  count := by rw [orphan_progress]
  counter := by
    rw [State.orphan, counter_bump, if_pos rfl, State.counter, setFlag_counters]
    rfl
  flag _ := flagSet_setFlag .orphanPixels s

theorem loseRow_counter (s : State) : s.loseRow.counter .orphanPixels = s.counter .orphanPixels := by
  rw [State.loseRow, counter_bump, if_neg (by decide), State.counter, setFlag_counters]
  rfl

theorem gather_orphansOnly {i : SegIdx} {s : State} (row raw : Nat) (h : s.progress[i].state = .idle)
    (hflag : s.flagSet .orphanPixels = true) :
    OrphansOnly i 0 s (s.gather i row raw) ∧ (s.gather i row raw).flagSet .orphanPixels = true := by
  have hset (v : State) (a : Accumulator) (hp : v.progress = s.progress) (hq : v.queue = s.queue)
      (hr : v.retired = s.retired) (hk : ∀ k, v.stack k = s.stack k)
      (hc : v.counter .orphanPixels = s.counter .orphanPixels) :
      OrphansOnly i 0 s (v.setProgress i (s.progress[i].withRow s.segs[i] a)) := by
    have hcount : (s.progress[i].withRow s.segs[i] a).count = s.progress[i].count := by
      unfold Progress.withRow
      split <;> rfl
    refine ⟨hq, hr, hk, ?_, ?_, hc, fun hpos => absurd hpos (lt_irrefl 0)⟩
    · rw [progress_setProgress_self, withRow_state, h]
    · rw [progress_setProgress_self, hcount]
  unfold State.gather
  split
  · exact ⟨hset s _ rfl rfl rfl (fun _ => rfl) rfl, hflag⟩
  · split
    · exact ⟨hset s _ rfl rfl rfl (fun _ => rfl) rfl, hflag⟩
    · refine ⟨hset s.loseRow _ (by simp [State.loseRow]) (by simp [State.loseRow]) (by simp [State.loseRow]) (fun k => ?_)
        (loseRow_counter s), flagSet_setFlag_of_set .biasRowLost hflag⟩
      cases k <;> simp [State.loseRow, State.stack]

theorem offer_of_idle {i : SegIdx} {s : State} (h : s.progress[i].state = .idle) (p : Nat) (cls : PixelClass) :
    s.offer i p cls = (s.orphan, none) := by
  simp only [State.offer, h]

theorem visitPixel_orphansOnly {i : SegIdx} {s : State} (h : s.progress[i].state = .idle) (p raw : Nat) :
    OrphansOnly i 1 s (s.visitPixel i p raw).1 := by
  have horphan := orphan_orphansOnly h
  unfold State.visitPixel
  split
  · exact horphan
  · simp only [offer_of_idle h]
    obtain ⟨hgather, hkept⟩ := gather_orphansOnly (i := i) (s := s.orphan) _ raw horphan.state (horphan.flag one_pos)
    exact horphan.trans hgather fun _ => hkept
  · simp only [offer_of_idle h]
    exact horphan

theorem visitPixels_orphansOnly {i : SegIdx} : ∀ (l : List (Nat × Nat)) {s : State}, s.progress[i].state = .idle →
    OrphansOnly i l.length s (s.visitPixels i l).1
  | [], s, h => ⟨rfl, rfl, fun _ => rfl, h, rfl, rfl, fun hpos => absurd hpos (lt_irrefl 0)⟩
  | (p, raw) :: rest, s, h => by
    have hone := visitPixel_orphansOnly h p raw
    have hrest := visitPixels_orphansOnly rest hone.state
    exact hone.trans hrest fun hset => by
      rcases Nat.eq_zero_or_pos rest.length with hnil | hpos
      · rw [List.length_eq_zero_iff.1 hnil]
        exact hset
      · exact hrest.flag hpos

end Sys2Proof.Machine
end


section
/-! The slot of a raw write and its flat lines (R59, R62), and its take into intake (R133). Settles O8 and O9. -/

namespace Sys2Proof.Machine

/-! ### Flat addresses rise with pixel order (R20, R62) -/

/-- A data pixel lies in its row, between the prescan and the overscan (R15). -/
theorem classOf_eq_data {r : SegRecord} {p row col : Nat} (h : classOf r p = .data row col) :
    row = p / r.rowlen ∧ col < r.W ∧ p = r.rowlen * row + (r.prescan + col) := by
  unfold classOf at h
  split at h
  · cases h
  · split at h
    · cases h
    · split at h
      · cases h
      · obtain ⟨rfl, rfl⟩ := PixelClass.data.inj h
        have hdecomp := Nat.div_add_mod p r.rowlen
        exact ⟨rfl, by omega, by omega⟩

/-- Along a segment, the place of a data pixel in the flat plane rises, and by no more than the pixel index. -/
theorem flatIndex_mono {r : SegRecord} {p p' row col row' col' : Nat} (hp : classOf r p = .data row col)
    (hp' : classOf r p' = .data row' col') (hle : p ≤ p') :
    row * r.W + col ≤ row' * r.W + col' ∧ row' * r.W + col' ≤ row * r.W + col + (p' - p) := by
  obtain ⟨hrow, hcol, hdecomp⟩ := classOf_eq_data hp
  obtain ⟨hrow', hcol', hdecomp'⟩ := classOf_eq_data hp'
  obtain ⟨d, rfl⟩ : ∃ d, row' = row + d := Nat.exists_eq_add_of_le (by rw [hrow, hrow']; exact Nat.div_le_div_right hle)
  have hlong : d * r.W ≤ r.rowlen * d := by
    rw [Nat.mul_comm]
    exact Nat.mul_le_mul_right d (by rw [SegRecord.rowlen]; omega)
  rw [Nat.mul_add] at hdecomp'
  rw [Nat.add_mul]
  rcases Nat.eq_zero_or_pos d with rfl | hd
  · omega
  · have hwide : r.W ≤ d * r.W := Nat.le_mul_of_pos_left _ hd
    omega

/-- The lines of two flat addresses at most 30 bytes apart are one line or neighbours. -/
theorem lineOf_near {a b : Nat} (hle : a ≤ b) (hnear : b ≤ a + 30) : lineOf a ≤ lineOf b ∧ lineOf b ≤ lineOf a + 32 := by
  rw [lineOf, lineOf]
  omega

theorem lineOf_mod (a : Nat) : lineOf a % 32 = 0 := by
  rw [lineOf]
  omega

/-! ### The distinct lines of a list (R62) -/

/-- A line joins a list that does not hold it. -/
def addLine (lines : List Nat) (a : Nat) : List Nat := if a ∈ lines then lines else lines ++ [a]

theorem mem_addLine (lines : List Nat) (a x : Nat) : x ∈ addLine lines a ↔ x ∈ lines ∨ x = a := by
  unfold addLine
  split
  · next h => exact ⟨.inl, fun hx => hx.elim id fun hx => hx ▸ h⟩
  · simp

theorem addLine_ascending {lines : List Nat} {a : Nat} (h : lines.Pairwise (· < ·)) (hle : ∀ x ∈ lines, x ≤ a) :
    (addLine lines a).Pairwise (· < ·) := by
  unfold addLine
  split
  · exact h
  · next hnot =>
    refine List.pairwise_append.2 ⟨h, List.pairwise_singleton .., fun x hx y hy => ?_⟩
    obtain rfl := List.mem_singleton.1 hy
    exact lt_of_le_of_ne (hle x hx) fun heq => hnot (heq ▸ hx)

theorem foldl_addLine : ∀ (l lines : List Nat), l.Pairwise (· ≤ ·) → lines.Pairwise (· < ·) →
    (∀ x ∈ lines, ∀ y ∈ l, x ≤ y) →
    (l.foldl addLine lines).Pairwise (· < ·) ∧ ∀ x, x ∈ l.foldl addLine lines ↔ x ∈ lines ∨ x ∈ l
  | [], lines, _, h, _ => ⟨h, fun x => by simp⟩
  | a :: l, lines, hl, h, hle => by
    obtain ⟨ha, hl⟩ := List.pairwise_cons.1 hl
    have hnext : ∀ x ∈ addLine lines a, ∀ y ∈ l, x ≤ y := fun x hx y hy =>
      ((mem_addLine lines a x).1 hx).elim (fun hx => hle x hx y (List.mem_cons_of_mem a hy)) fun hx => hx ▸ ha y hy
    obtain ⟨hasc, hmem⟩ := foldl_addLine l _ hl
      (addLine_ascending h fun x hx => hle x hx a List.mem_cons_self) hnext
    exact ⟨hasc, fun x => by rw [List.foldl_cons, hmem, mem_addLine, List.mem_cons, or_assoc]⟩

/-- Ascending multiples of 32 within 32 of each other are two at most. -/
theorem length_le_two {l : List Nat} (hasc : l.Pairwise (· < ·)) (hmod : ∀ x ∈ l, x % 32 = 0)
    (hnear : ∀ x ∈ l, ∀ y ∈ l, y ≤ x + 32) : l.length ≤ 2 := by
  match l with
  | [] => simp
  | [_] => simp
  | [_, _] => simp
  | x :: y :: z :: rest =>
    simp only [List.pairwise_cons, List.mem_cons, forall_eq_or_imp] at hasc hmod hnear
    obtain ⟨⟨hxy, -⟩, ⟨hyz, -⟩, -⟩ := hasc
    obtain ⟨hx, hy, hz, -⟩ := hmod
    obtain ⟨⟨-, -, hxz, -⟩, -⟩ := hnear
    omega

/-! ### The flat lines of a slot (R59, R62) -/

theorem neededLine_eq_some {r : SegRecord} {e : Exposure} {k : StackRecord} {px : SlotPixel} {a : Nat} :
    neededLine r e k px = some a ↔ ∃ row col fb, px.taken = true ∧ px.cls = .data row col ∧ r.flatBase = some fb
      ∧ onFrame k (mosaicOf r e.dx e.dy row col) = true ∧ a = lineOf (flatAddress fb r row col) := by
  constructor
  · unfold neededLine
    split
    · next row col fb hcls htaken hfb =>
      intro h
      obtain ⟨hon, heq⟩ := Option.ite_none_right_eq_some.1 h
      exact ⟨row, col, fb, htaken, hcls, hfb, hon, (Option.some.inj heq).symm⟩
    · exact fun h => absurd h (Option.some_ne_none a).symm
  · rintro ⟨row, col, fb, htaken, hcls, hfb, hon, rfl⟩
    simp only [neededLine, htaken, hcls, hfb, hon, if_true]

/-- Two lines of which the first is needed by an earlier pixel: the same, or the next. -/
abbrev LineBefore (x y : Nat) : Prop := x ≤ y ∧ y ≤ x + 32

/-- The pixels of one write need lines in ascending order, each at the one before or next to it. -/
theorem neededLines_pairwise {r : SegRecord} (e : Exposure) (k : StackRecord) {pixels : List SlotPixel} {start n : Nat}
    (hn : n ≤ 16) (hcls : pixels.map (·.cls) = (List.range n).map fun j => classOf r (start + j)) :
    (pixels.filterMap (neededLine r e k)).Pairwise LineBefore := by
  have hclasses : (pixels.map (·.cls)).Pairwise fun c c' => ∀ row col row' col', c = .data row col → c' = .data row' col' →
      row * r.W + col ≤ row' * r.W + col' ∧ row' * r.W + col' ≤ row * r.W + col + 15 := by
    rw [hcls, List.pairwise_map]
    refine List.pairwise_lt_range.imp_of_mem fun {j j'} _ hj' hlt row col row' col' h h' => ?_
    have hbound := List.mem_range.1 hj'
    obtain ⟨hlo, hhi⟩ := flatIndex_mono h h' (by omega)
    omega
  rw [List.pairwise_filterMap]
  refine (List.pairwise_map.1 hclasses).imp fun {px px'} hpx a ha a' ha' => ?_
  obtain ⟨row, col, fb, -, hc, hfb, -, rfl⟩ := neededLine_eq_some.1 ha
  obtain ⟨row', col', fb', -, hc', hfb', -, rfl⟩ := neededLine_eq_some.1 ha'
  obtain rfl : fb = fb' := Option.some.inj (hfb.symm.trans hfb')
  obtain ⟨hlo, hhi⟩ := hpx row col row' col' hc hc'
  rw [flatAddress, flatAddress]
  exact lineOf_near (by omega) (by omega)

/-- The flat lines of a slot: PENDING, in ascending order, two at most, and those its pixels need. -/
theorem flatLines_spec {r : SegRecord} (e : Exposure) (k : StackRecord) {pixels : List SlotPixel} {start n : Nat}
    (hn : n ≤ 16) (hcls : pixels.map (·.cls) = (List.range n).map fun j => classOf r (start + j)) :
    (∀ f ∈ flatLines r e k pixels, f.status = .pending)
      ∧ ((flatLines r e k pixels).map (·.addr)).Pairwise (· < ·) ∧ (flatLines r e k pixels).length ≤ 2
      ∧ ∀ a, a ∈ (flatLines r e k pixels).map (·.addr) ↔ ∃ px ∈ pixels, neededLine r e k px = some a := by
  have hpair := neededLines_pairwise e k hn hcls
  obtain ⟨hasc, hmem⟩ := foldl_addLine (pixels.filterMap (neededLine r e k)) []
    (hpair.imp fun h => h.1) List.Pairwise.nil fun x hx => absurd hx List.not_mem_nil
  have haddr : (flatLines r e k pixels).map (·.addr) = (pixels.filterMap (neededLine r e k)).foldl addLine [] := by
    rw [flatLines, List.map_map]
    exact List.map_id' _
  have hneeded (a : Nat) : a ∈ (pixels.filterMap (neededLine r e k)).foldl addLine []
      ↔ ∃ px ∈ pixels, neededLine r e k px = some a := by
    rw [hmem, List.mem_filterMap, or_iff_right List.not_mem_nil]
  have hnear : ∀ x ∈ pixels.filterMap (neededLine r e k), ∀ y ∈ pixels.filterMap (neededLine r e k),
      x ≤ y + 32 ∧ y ≤ x + 32 := by
    have hsymm : Std.Symm fun x y : Nat => x ≤ y + 32 ∧ y ≤ x + 32 := ⟨fun x y h => ⟨h.2, h.1⟩⟩
    exact List.Pairwise.forall_of_forall (fun x _ => by omega) (hpair.imp fun {x y} h => ⟨by omega, h.2⟩)
  refine ⟨fun f hf => ?_, haddr ▸ hasc, ?_, fun a => by rw [haddr, hneeded]⟩
  · obtain ⟨a, -, rfl⟩ := List.mem_map.1 hf
    rfl
  · rw [← List.length_map (·.addr), haddr]
    refine length_le_two hasc (fun x hx => ?_) fun x hx y hy => ?_
    · obtain ⟨px, -, hpx⟩ := (hneeded x).1 hx
      obtain ⟨row, col, fb, -, -, -, -, rfl⟩ := neededLine_eq_some.1 hpx
      exact lineOf_mod _
    · rw [hmem, or_iff_right List.not_mem_nil] at hx hy
      exact (hnear x hx y hy).2

/-! ### The take of a raw write (R133) -/

theorem pixelsIn_le (size : Size) : pixelsIn size ≤ 16 := by cases size <;> decide

theorem pixelsIn_pos {size : Size} (h : size ≠ .byte) : 0 < pixelsIn size := by
  cases size
  · exact absurd rfl h
  all_goals decide

/-- What the take of a raw write leaves, its slot and visit given. -/
theorem takeRaw_eq (i : SegIdx) (t : Transfer) {s : State} (hc : s.current = none) :
    let v := s.visitPixels i (pixelsOf s.segs[i] t.start t.size t.data)
    let slot := slotOfWrite i t s.segs[i] s.progress[i].B s.nextSlot v.2.1 v.2.2 v.1
    s.takeRaw i t = { v.1 with
      answers := (t, .done 0) :: s.answers, nextSlot := s.nextSlot + 1, intake := (s.takeRaw i t).intake }
      ∧ IntakeSettles (s.intake ++ [slot]) (s.takeRaw i t).intake := by
  intro v slot
  have hframe : v.1 = _ := (visitPixels_moves i (pixelsOf s.segs[i] t.start t.size t.data) s).frame
  have hcurrent : v.1.current = none := by rw [hframe]; exact hc
  have hintake : v.1.intake = s.intake := by rw [hframe]
  have hanswers : v.1.answers = s.answers := visitPixels_answers i _ s
  refine ⟨?_, ?_⟩
  · have htake : s.takeRaw i t = { v.1 with
        current := none, answers := (t, .done 0) :: v.1.answers, nextSlot := s.nextSlot + 1
        intake := (s.takeRaw i t).intake } := rfl
    refine htake.trans ?_
    rw [hanswers, ← hcurrent]
  · rw [← hintake]
    exact settleIntake_settles _

/-- The take of a raw write by its own command (R133). -/
theorem exec_rawWrite_taken {initiator : BitVec 3} {addr : BitVec 40} {size : Size} {data : Line} {i : SegIdx} {s : State}
    (t : Transfer) (ht : t = { initiator := initiator, addr := addr, size := size, op := .write data })
    (hs : s.Running) (hfree : s.PortFree) (ha : t.aligned = true) (hw : s.windowOf t = some i) (hsize : size ≠ .byte)
    (hin : ¬ (size = .line ∧ t.inside s.segs[i].rawBase s.segs[i].windowSize = false))
    (hallows : s.segs[i].writer.allows initiator = true) (hroom : s.intake.length < 8) :
    exec (.rawWrite initiator addr size data) s = .next (s.takeRaw i t).settleRequests := by
  subst ht
  obtain ⟨hc, hl⟩ := hfree
  have hroute := (route_of_window hl (.inr (.inr ⟨data, rfl⟩)) hw).trans (routeRaw_of_taken rfl hsize hin hallows hroom)
  rw [← hroute]
  exact exec_cameraTransfer_taken hs hc ha

/-- Settles O9. -/
theorem rawWriteIntoIdleSegmentIsAllOrphans : Obligations.RawWriteIntoIdleSegmentIsAllOrphans := by
  intro initiator addr size data i s t r hs hfree ha hw hsize hin hallows hroom hidle
  have hvisit := visitPixels_orphansOnly (pixelsOf s.segs[i] t.start t.size t.data) hidle
  have hlength : (pixelsOf s.segs[i] t.start t.size t.data).length = pixelsIn size := by
    rw [pixelsOf, List.length_map, List.length_range]
  rw [hlength] at hvisit
  refine ⟨_, exec_rawWrite_taken t rfl hs hfree ha hw hsize hin hallows hroom, ?_⟩
  rw [(takeRaw_eq i t hfree.1).1, settleRequests_frame]
  exact ⟨hvisit.queue, hvisit.retired, fun k => by rw [← hvisit.stack]; cases k <;> rfl, hvisit.state, hvisit.count,
    hvisit.flag (pixelsIn_pos hsize), hvisit.counter⟩

/-- The flat lines of the slot of a raw write. -/
theorem slotOfWrite_flats {i : SegIdx} {t : Transfer} {r : SegRecord} {B tag : Nat} {pixels : List SlotPixel}
    {exposure : Option Nat} {after : State} {start n : Nat} (hn : n ≤ 16)
    (hcls : pixels.map (·.cls) = (List.range n).map fun j => classOf r (start + j)) :
    let flats := (slotOfWrite i t r B tag pixels exposure after).flats
    (∀ f ∈ flats, f.status = .pending) ∧ (flats.map (·.addr)).Pairwise (· < ·) ∧ flats.length ≤ 2
      ∧ ∀ a, a ∈ flats.map (·.addr) ↔ ∃ e, exposure.bind after.exposure? = some e
        ∧ ∃ px ∈ pixels, neededLine r e (after.stack e.stackSlot) px = some a := by
  cases he : exposure.bind after.exposure? with
  | none => simp [slotOfWrite, he]
  | some e =>
    have hflats : (slotOfWrite i t r B tag pixels exposure after).flats
        = flatLines r e (after.stack e.stackSlot) pixels := by simp only [slotOfWrite, he]
    obtain ⟨hpending, hasc, hlength, hmem⟩ := flatLines_spec e (after.stack e.stackSlot) hn hcls
    rw [hflats]
    exact ⟨hpending, hasc, hlength, fun a => by rw [hmem]; simp⟩

/-- A move of the exposures with an answer and a slot, once its requests are taken. -/
theorem settled_frame_of_moves {s w v : State} {answers : List (Transfer × Answer)} {nextSlot : Nat}
    {intake : List IntakeSlot} (hs : s.Settled) (hmoves : ExposuresMove s w)
    (hv : v = { w with answers := answers, nextSlot := nextSlot, intake := intake }) :
    let u := v.settleRequests
    u = { s with
      answers := u.answers, nextSlot := u.nextSlot, intake := u.intake, progress := u.progress
      queue := u.queue, retired := u.retired, flags := u.flags, attn := u.attn, counters := u.counters
      rewrite := u.rewrite, rewriteCount := u.rewriteCount, mark := u.mark
      stack0 := { s.stack0 with refCount := u.stack0.refCount }
      stack1 := { s.stack1 with refCount := u.stack1.refCount } } := by
  intro u
  obtain ⟨hreq, hret, -⟩ := hs
  have hu : u = { v with
      rewriteCount := u.rewriteCount, rewrite := u.rewrite, mark := u.mark, requested := false, retirements := 0 } := by
    have hframe := settleRequests_frame v
    rwa [settleRequests_requested, settleRequests_retirements] at hframe
  have hstack0 : w.stack0 = { s.stack0 with refCount := w.stack0.refCount } := hmoves.records .zero
  have hstack1 : w.stack1 = { s.stack1 with refCount := w.stack1.refCount } := hmoves.records .one
  generalize u = u' at hu ⊢
  rw [hu, hv, hmoves.frame]
  simp only [hreq, hret]
  congr 1

/-- What the take of a raw write leaves once its requests are taken: the visit's effects, its answer and its slot. -/
theorem takeRaw_settled_frame (i : SegIdx) (t : Transfer) {s : State} (hs : s.Settled) (hc : s.current = none) :
    let u := (s.takeRaw i t).settleRequests
    u = { s with
      answers := u.answers, nextSlot := u.nextSlot, intake := u.intake, progress := u.progress
      queue := u.queue, retired := u.retired, flags := u.flags, attn := u.attn, counters := u.counters
      rewrite := u.rewrite, rewriteCount := u.rewriteCount, mark := u.mark
      stack0 := { s.stack0 with refCount := u.stack0.refCount }
      stack1 := { s.stack1 with refCount := u.stack1.refCount } } := by
  exact settled_frame_of_moves hs (visitPixels_moves i _ s) (takeRaw_eq i t hc).1

/-- Settles O8. -/
theorem rawWriteIsTakenIntoIntake : Obligations.RawWriteIsTakenIntoIntake := by
  intro initiator addr size data i s t r js index visit v hs hfree ha hw hsize hin hallows hroom
  have hvisit (a : State × List (Option Nat)) (j : Nat) : visit a j
      = ((a.1.markPixel i r (index j) (rawAt data j)).1, a.2 ++ [(a.1.markPixel i r (index j) (rawAt data j)).2]) := by
    simp only [visit, State.markPixel]
    cases classOf r (index j) <;> rfl
  have hpixels : pixelsOf s.segs[i] t.start t.size t.data = js.map fun j => (index j, rawAt data j) := rfl
  obtain ⟨hstate, hraw, hcls, htaken, hexposure⟩ := visitPixels_marks (i := i) (r := r)
    (pixelsOf s.segs[i] t.start t.size t.data) (s := s) rfl
  have hv : v = (s.markPixels i r (pixelsOf s.segs[i] t.start t.size t.data)) := by
    rw [hpixels]
    exact (markPixels_eq_foldl index (rawAt data) visit hvisit js s []).trans (by rw [List.nil_append])
  rw [← hv] at hstate htaken hexposure
  rw [hpixels, List.map_map] at hraw hcls
  obtain ⟨htake, hsettles⟩ := takeRaw_eq i t hfree.1
  obtain ⟨hpending, hasc, hlength, hmem⟩ := slotOfWrite_flats (i := i) (t := t) (r := r) (B := s.progress[i].B)
    (tag := s.nextSlot) (exposure := (s.visitPixels i (pixelsOf s.segs[i] t.start t.size t.data)).2.2)
    (after := (s.visitPixels i (pixelsOf s.segs[i] t.start t.size t.data)).1) (pixelsIn_le size) hcls
  have hintake : (s.takeRaw i t).settleRequests.intake = (s.takeRaw i t).intake := settleRequests_intake _
  refine ⟨_, _, exec_rawWrite_taken t rfl hs hfree ha hw hsize hin hallows hroom, rfl, rfl, rfl, rfl, rfl, rfl, rfl, rfl,
    hraw, hcls, htaken, hexposure, hpending, hasc, hlength, fun a => ?_, ?_, ?_, takeRaw_settled_frame i t hs.2 hfree.1,
    ?_⟩
  · have hframe (e : Exposure) (p : Int × Int) :
        onFrame ((s.visitPixels i (pixelsOf s.segs[i] t.start t.size t.data)).1.stack e.stackSlot) p
          = onFrame (s.stack e.stackSlot) p := by
      rw [(visitPixels_moves i _ s).records]
      rfl
    rw [hmem]
    simp only [neededLine_eq_some, hframe]
    simp only [hstate]
    constructor
    · rintro ⟨e, he, px, hpx, row, col, fb, hneeded⟩
      exact ⟨e, px, row, col, fb, he, hpx, hneeded⟩
    · rintro ⟨e, px, row, col, fb, he, hpx, hneeded⟩
      exact ⟨e, he, px, hpx, row, col, fb, hneeded⟩
  · rw [hintake]
    exact hsettles
  · rw [hintake, ← hstate]
    exact congrArg State.settleRequests htake
  · intro j hj
    rw [settleRequests_progress, htake]
    exact visitPixels_keepsOthers i _ s j hj

end Sys2Proof.Machine
end


section
/-! The command word captured in IDLE (R157, R176), and RESTART (R144, R155, R164, R165). Settles O40 and O50. -/

namespace Sys2Proof.Machine

/-! ### The command word (R176) -/

theorem wordCode_commandWord (code tag : BitVec 8) (arg : BitVec 16) : wordCode (commandWord code tag arg) = code := by
  refine BitVec.eq_of_getLsbD_eq fun n hn => ?_
  simp only [wordCode, commandWord, BitVec.getLsbD_extractLsb', BitVec.getLsbD_append]
  simp [hn, show n < 16 by omega]

theorem wordTag_commandWord (code tag : BitVec 8) (arg : BitVec 16) : wordTag (commandWord code tag arg) = tag := by
  refine BitVec.eq_of_getLsbD_eq fun n hn => ?_
  simp only [wordTag, commandWord, BitVec.getLsbD_extractLsb', BitVec.getLsbD_append]
  simp [hn, show 8 + n < 16 by omega]

theorem wordArg_commandWord (code tag : BitVec 8) (arg : BitVec 16) : wordArg (commandWord code tag arg) = arg := by
  refine BitVec.eq_of_getLsbD_eq fun n hn => ?_
  simp only [wordArg, commandWord, BitVec.getLsbD_extractLsb', BitVec.getLsbD_append]
  simp [hn]

theorem toNat_commandWord (code tag : BitVec 8) (arg : BitVec 16) :
    (commandWord code tag arg).toNat = code.toNat + 2 ^ 8 * tag.toNat + 2 ^ 16 * arg.toNat := by
  have hlow : (tag ++ code).toNat = 2 ^ 8 * tag.toNat + code.toNat := by
    rw [BitVec.toNat_append, ← Nat.shiftLeft_add_eq_or_of_lt code.isLt, Nat.shiftLeft_eq, Nat.mul_comm]
  rw [commandWord, BitVec.toNat_append, ← Nat.shiftLeft_add_eq_or_of_lt (tag ++ code).isLt, Nat.shiftLeft_eq, hlow]
  omega

theorem commandOf_number (code : CommandCode) : commandOf (BitVec.ofNat 8 code.number).toNat = some code := by
  cases code <;> rfl

theorem commandOf_of_bad {n : Nat} (h : n = 0 ∨ 11 ≤ n) : commandOf n = none := by
  rcases h with rfl | h
  · rfl
  · obtain ⟨m, rfl⟩ := Nat.exists_eq_add_of_le' h
    rfl

/-! ### The capture (R157) -/

theorem captureCommand_of_known {s : State} {code : CommandCode} {tag : BitVec 8} {arg : BitVec 16} (h : s.engine = .idle) :
    s.captureCommand (commandWord (BitVec.ofNat 8 code.number) tag arg)
      = { s with engine := .executing { code := code, tag := tag, arg := arg } (.params none) } := by
  simp only [State.captureCommand, h, wordCode_commandWord, wordTag_commandWord, wordArg_commandWord, commandOf_number]

theorem captureCommand_of_bad {s : State} {code tag : BitVec 8} {arg : BitVec 16} (h : s.engine = .idle)
    (hcode : code.toNat = 0 ∨ 11 ≤ code.toNat) :
    s.captureCommand (commandWord code tag arg) = s.endCommand code tag .badCommand code.toNat := by
  simp only [State.captureCommand, h, wordCode_commandWord, wordTag_commandWord, commandOf_of_bad hcode]

/-- The take of a command word, by a row of its own or as a transfer. -/
theorem act_takeCommand (initiator : BitVec 3) (code tag : BitVec 8) (arg : BitVec 16) (s : State) :
    act (State.takeCommand initiator code tag arg) s
      = exec (.cameraTransfer (s.controlWrite initiator 0 (commandWord code tag arg))) s := by
  change _ = execCameraTransfer _ s
  simp only [execCameraTransfer, act, State.takeCommand, commandWordOffset]

/-- A command's own row is the take of its word's write. -/
theorem exec_commandWrite {command : BitVec 3 → BitVec 8 → BitVec 16 → Instr} {code : CommandCode}
    (h : (command, code) ∈ [(Instr.loadPlan, CommandCode.loadPlan), (Instr.openStack, CommandCode.openStack),
      (Instr.renderStack, CommandCode.renderStack), (Instr.discardStack, CommandCode.discardStack),
      (Instr.openExposure, CommandCode.openExposure), (Instr.closeExposure, CommandCode.closeExposure),
      (Instr.setWatch, CommandCode.setWatch), (Instr.setEnables, CommandCode.setEnables),
      (Instr.report, CommandCode.report), (Instr.restart, CommandCode.restart)])
    (initiator : BitVec 3) (tag : BitVec 8) (arg : BitVec 16) (s : State) :
    exec (command initiator tag arg) s
      = exec (.cameraTransfer (s.controlWrite initiator 0 (commandWord (BitVec.ofNat 8 code.number) tag arg))) s := by
  simp only [List.mem_cons, Prod.mk.injEq, List.not_mem_nil, or_false] at h
  rcases h with ⟨rfl, rfl⟩ | ⟨rfl, rfl⟩ | ⟨rfl, rfl⟩ | ⟨rfl, rfl⟩ | ⟨rfl, rfl⟩ | ⟨rfl, rfl⟩ | ⟨rfl, rfl⟩ | ⟨rfl, rfl⟩
    | ⟨rfl, rfl⟩ | ⟨rfl, rfl⟩ <;> exact act_takeCommand initiator _ tag arg s

/-- The take of a command word is the capture of the word by the engine. -/
theorem exec_commandWord {initiator : BitVec 3} {w : BitVec 32} {s : State} (hs : s.Running) (hfree : s.PortFree)
    (hclear : s.ControlLineClear (s.controlWrite initiator 0 w)) :
    exec (.cameraTransfer (s.controlWrite initiator 0 w)) s
      = .next (State.captureCommand w
          { s with current := some { transfer := s.controlWrite initiator 0 w, stage := .forwarding } }).settleRequests := by
  have ⟨_, _, _, hcopies⟩ := hclear
  rw [exec_controlWrite (by omega) rfl hs hfree hclear, routeControl_commandWord hcopies]

/-- A command of no code ends with nothing but its result recorded. -/
theorem endCommand_endedWith (code tag : BitVec 8) (r : ResultCode) (d : Nat) {v : State} (hv : v.Settled) :
    EndedWith code tag r d v (v.endCommand code tag r d).settleRequests := by
  obtain ⟨w, hw⟩ : ∃ w, w = { v with
    last := { tag := tag, code := code, result := r, detail := d }, engine := .idle } := ⟨_, rfl⟩
  have hsettled : w.Settled := hw ▸ hv
  have hend : v.endCommand code tag r d = (w.setFlag .commandDone).request := by rw [hw, State.endCommand]
  obtain ⟨hu, hflags, -, hrewrite⟩ := (((signals_nothing hsettled).setFlag .commandDone).request).settled hsettled.1
    hsettled.2.1
  have hcounters : ((w.setFlag .commandDone).request).settleRequests.counters = w.counters := by
    rw [settleRequests_counters, request_counters, setFlag_counters]
  rw [hcounters] at hu
  rw [hend]
  subst hw
  exact ⟨hu, hflags, hrewrite⟩

/-- Settles O40. -/
theorem commandWordIsCapturedInIdle : Obligations.CommandWordIsCapturedInIdle := by
  refine ⟨?_, ?_, fun initiator code tag arg s => ?_⟩
  · intro command code initiator tag arg s hcommand t hs hfree hclear hidle
    rw [exec_commandWrite hcommand, exec_commandWord hs hfree hclear,
      captureCommand_of_known (s := { s with current := some { transfer := t, stage := .forwarding } }) hidle]
    exact next_settleRequests (u := { s with current := _, engine := _ }) hs.2
  · intro initiator code tag arg s t hs hfree hclear hidle hcode
    have hexec : exec (.badCommand initiator code tag arg) s = exec (.cameraTransfer t) s :=
      act_takeCommand initiator code tag arg s
    rw [hexec, exec_commandWord hs hfree hclear,
      captureCommand_of_bad (s := { s with current := some { transfer := t, stage := .forwarding } }) hidle hcode]
    exact ⟨_, rfl, endCommand_endedWith code tag .badCommand code.toNat
      (v := { s with current := some { transfer := t, stage := .forwarding } }) hs.2⟩
  · have hdata : (commandWord code tag arg).setWidth 256
        = BitVec.ofNat 256 (code.toNat + 2 ^ 8 * tag.toNat + 2 ^ 16 * arg.toNat) := by
      rw [← toNat_commandWord, BitVec.ofNat_toNat]
    rw [State.controlWrite, hdata, Nat.add_zero, State.controlBase, Config.controlAreaStep]

/-! ### RESTART (R144, R155, R164, R165) -/

/-- The transfer that a RESTART gives RETRY (R144): one held, or one forwarded and not yet granted. -/
def State.retried (s : State) : Option Transfer :=
  match s.current with
  | none => none
  | some x => if x.stage = .forwarding ∧ (s.inFlight.any fun f => f.owner == .forward) then none else some x.transfer

theorem releaseForRestart_eq (s : State) : s.releaseForRestart
    = { s with
        current := if s.retried.isSome then none else s.current
        answers := match s.retried with
          | some t => (t, .retry) :: s.answers
          | none => s.answers } := by
  rcases hc : s.current with _ | ⟨t, stage⟩
  · simp only [State.releaseForRestart, State.retried, hc, Option.isSome_none, Bool.false_eq_true, if_false]
    rw [← hc]
  · cases stage with
    | held reason => simp [State.releaseForRestart, State.retried, hc, State.answer]
    | forwarding =>
      cases hfly : s.inFlight.any fun f => f.owner == .forward with
      | false => simp [State.releaseForRestart, State.retried, hc, State.answer, State.inFlightFor, hfly]
      | true =>
        simp only [State.releaseForRestart, State.retried, hc, State.inFlightFor, hfly, and_self, if_true,
          Option.isSome_none, Bool.false_eq_true, if_false]
        rw [← hc]

theorem sweepRequest_isSome {s : State} (hs : s.resetAsserted = false) :
    s.sweepRequest.isSome = true ↔ s.sweep.isSome = true ∧ ¬ (s.inFlight.any fun f => f.owner.isSweep) = true := by
  rw [State.sweepRequest, State.presented, if_neg (by simp [hs]), State.sweepInFlight]
  cases s.inFlight.any fun f => f.owner.isSweep <;> simp

theorem exec_restartEnd {c : CurrentCommand} {s : State} (hs : s.Running) (heng : s.engine = .executing c .draining) :
    exec .restartEnd s = .next (if s.inFlight.isEmpty then s.endRestart c else s).settleRequests := by
  change execRestartEnd s = _
  rw [execRestartEnd, act_of_released hs.1]
  simp only [heng]

theorem restart_settled (c : CurrentCommand) (s : State) : (s.restart c).Settled := by
  have hquiet : attention 0 0 = false := by decide
  exact ⟨rfl, rfl, hquiet.symm⟩

/-- The end of a RESTART: the command's end over the arbiter's reset values, and the initial rewrite started (R165). -/
theorem endRestart_eq (c : CurrentCommand) {s : State} (h : s.Attends) :
    s.endRestart c = { s with
      turn := .forward, sweepWait := 0, lockState := .free
      last := { tag := c.tag, code := BitVec.ofNat 8 c.code.number, result := .ok, detail := 0 }, engine := .idle
      flags := s.flags ||| Flag.mask .commandDone, attn := attention (s.flags ||| Flag.mask .commandDone) s.enables
      mark := false, requested := false, retirements := 0, initialLead := true, rewriteCount := s.rewriteCount + 1
      rewrite := some 0 } := by
  have hfinish := endCommand_eq (BitVec.ofNat 8 c.code.number) c.tag .ok 0
    { s with turn := .forward, sweepWait := 0, lockState := .free } h
  rw [State.endRestart, State.finish, hfinish]
  rfl

/-- Settles O50. -/
theorem restartTakesEffectAndEnds : Obligations.RestartTakesEffectAndEnds := by
  refine ⟨?_, ?_⟩
  · intro c first second s hs ha hc inFlight retried
    have hretried : s.commandLanded.retried = retried := rfl
    have hhand : s.commandLanded.handOver c (block first second) = s.commandLanded.restart c := by
      rw [State.handOver, hc]
    have hreset : s.commandLanded.resetAsserted = false := hs.1
    rw [exec_parameterReadDone_second second hs ha, hhand, next_settleRequests (restart_settled c _), State.restart,
      releaseForRestart_eq, hretried, hreset]
    simp only [sweepRequest_isSome hreset]
    rfl
  · intro c s hs heng
    refine ⟨fun hempty => ?_, fun hflying => ?_⟩
    · have hend := endRestart_eq c (s := s) hs.2.2.2
      rw [exec_restartEnd hs heng, if_pos (by rw [hempty]; rfl), hend]
      refine (next_settleRequests ⟨rfl, rfl, rfl⟩).trans ?_
      rw [hs.2.1, hs.2.2.1]
    · rw [exec_restartEnd hs heng, if_neg (by rwa [List.isEmpty_iff])]
      exact next_settleRequests hs.2

end Sys2Proof.Machine
end


section
/-! The arbiter's grants (R147 to R151, R155). Settles O37 and O39. -/

namespace Sys2Proof.Machine

/-! ### A grant at its requester (R147) -/

theorem exec_arbiterGrant {s : State} (hs : s.Running) : exec .arbiterGrant s = .next s.arbitrate.settleRequests :=
  act_of_released (f := State.arbitrate) hs.1

/-- The arbiter's choice once no leading copy is due, no RESTART drains and no lock holds the port (R147). -/
theorem arbitrate_free {s : State} (hlead : s.initialLead = false) (hdrain : s.restartDraining = false)
    (hlock : s.lockState = .free) : s.arbitrate = s.grantFree := by
  rw [State.arbitrate, if_neg (by simp [hdrain]), if_neg (by simp [hlead]), hlock]

theorem grantFree_forward {s : State} {g : Owner × MemTransfer} (hg : s.forwardGrant = some g)
    (h : s.internalGrant = none ∨ s.turn = .forward) : s.grantFree = s.grantForward g := by
  unfold State.grantFree
  rw [hg]
  cases hi : s.internalGrant with
  | none => rfl
  | some i =>
    have hturn : s.turn = .forward := h.resolve_left (by simp [hi])
    simp only [hturn]

theorem grantFree_internal {s : State} {g : Owner × MemTransfer} (hg : s.internalGrant = some g)
    (h : s.forwardGrant = none ∨ s.turn = .internal) : s.grantFree = s.grantInternal g := by
  unfold State.grantFree
  rw [hg]
  cases hf : s.forwardGrant with
  | none => rfl
  | some f =>
    have hturn : s.turn = .internal := h.resolve_left (by simp [hf])
    simp only [hturn]

theorem grantFree_nothing {s : State} (hf : s.forwardGrant = none) (hi : s.internalGrant = none) : s.grantFree = s := by
  rw [State.grantFree, hf, hi]

/-- A grant leaves the step with nothing requested. -/
theorem grant_settled (g : Owner × MemTransfer) {s : State} (hs : s.Settled) : (s.grant g).Settled := by
  unfold State.grant State.afterGrant
  split
  · exact hs
  · rw [presentWrite_eq]
    exact hs
  · exact hs
  · exact hs

/-- Settles O37. -/
theorem arbiterGrantsByTurnAndOrder : Obligations.ArbiterGrantsByTurnAndOrder := by
  refine ⟨?_, fun s => ?_⟩
  · intro g s hs hlead hdrain hlock issued after
    have hgrant : s.grant g = after := by
      obtain ⟨owner, x⟩ := g
      cases owner with
      | status => exact congrArg (fun lead => { issued with initialLead := lead }) hlead.symm
      | _ => rfl
    have hexec : exec .arbiterGrant s = .next s.grantFree.settleRequests := by
      rw [exec_arbiterGrant hs, arbitrate_free hlead hdrain hlock]
    have hsettled : after.Settled := hgrant ▸ grant_settled g hs.2
    refine ⟨fun hf h => ?_, fun hi h => ?_, fun hf hi => ?_⟩
    · rw [hexec, grantFree_forward hf h, State.grantForward, hgrant]
      exact next_settleRequests (u := { after with turn := .internal }) hsettled
    · rw [hexec, grantFree_internal hi h, State.grantInternal, hgrant]
      exact next_settleRequests (u := { after with turn := .forward, sweepWait := s.waitAfter g.1 }) hsettled
    · rw [hexec, grantFree_nothing hf hi]
      exact next_settleRequests hs.2
  · have hinternal (h : ¬ (s.sweepWait = 15 ∧ s.sweepGrant.isSome)) : s.internalGrant = s.internalOrder := if_neg h
    refine ⟨fun g h => by rw [State.forwardGrant, h]; rfl, fun h => by rw [State.forwardGrant, h]; rfl,
      fun g hwait h => ?_, fun h => ?_, fun g => by simp [State.sweepGrant, Option.filter_eq_some_iff]⟩
    · rw [← h]
      exact if_pos ⟨hwait, by rw [h]; rfl⟩
    · rw [hinternal h, State.internalOrder]
      refine ⟨fun g hg => by rw [hg]; rfl, fun hstatus => ?_⟩
      rw [hstatus]
      refine ⟨fun g hg => by rw [hg]; rfl, fun hcommand => ?_⟩
      rw [hcommand]
      refine ⟨fun g hg => by rw [hg]; rfl, fun hplacement => ?_⟩
      rw [hplacement]
      exact ⟨fun g hg => by rw [hg]; rfl, fun hflat => by rw [hflat]; rfl⟩

/-! ### The leading copy and the locked sequence (R151, R155) -/

theorem statusRequest_of_rewrite {s : State} {n : Nat} (hs : s.resetAsserted = false) (hn : s.rewrite = some n)
    (hfly : s.inFlightFor .status = false) : s.statusRequest = some (.status, s.statusWrite n) := by
  simp [State.statusRequest, State.presented, hs, hn, hfly]

/-- A grant of the C-port's transfer only issues it. -/
theorem grant_forward (x : MemTransfer) (s : State) :
    s.grant (.forward, x) = { s with inFlight := s.inFlight ++ [{ owner := .forward, transfer := x, live := true }] } := rfl

theorem arbitrate_draining {s : State} (hlead : s.initialLead = false) (hdrain : s.restartDraining = false)
    (hlock : s.lockState = .draining) : s.arbitrate = s.grantLocked := by
  rw [State.arbitrate, if_neg (by simp [hdrain]), if_neg (by simp [hlead]), hlock]

theorem arbitrate_held {s : State} (hlead : s.initialLead = false) (hdrain : s.restartDraining = false)
    (hlock : s.lockState = .held) :
    s.arbitrate = s.forwardRequest.elim s fun x => s.grant (.forward, x) := by
  rw [State.arbitrate, if_neg (by simp [hdrain]), if_neg (by simp [hlead]), hlock]
  cases s.forwardRequest <;> rfl

/-- The LOCKED read granted, once nothing is in flight (R151). -/
theorem grantLocked_of_empty {s : State} {x : MemTransfer} (hempty : s.inFlight = []) (hlead : s.initialLead = false)
    (hdrain : s.restartDraining = false) (hx : s.forwardRequest = some x) :
    s.grantLocked
      = { s with lockState := .held, inFlight := [{ owner := .forward, transfer := x, live := true }] } := by
  rw [State.grantLocked, if_pos (by simp [hempty, hlead, hdrain]), hx]
  simp only [grant_forward, hempty, List.nil_append]

/-- Settles O39. -/
theorem leadingCopyAndLockedSequenceGoAlone : Obligations.LeadingCopyAndLockedSequenceGoAlone := by
  refine ⟨fun s hs hlead hdrain hrewrite hfly => ?_, fun s hs hlead hdrain => ⟨fun hlock hflying => ?_,
    fun x hlock hempty hx => ?_, fun x hlock hx => ?_, fun hlock hx => ?_⟩⟩
  · rw [exec_arbiterGrant hs, State.arbitrate, if_neg (by simp [hdrain]), if_pos hlead,
      statusRequest_of_rewrite hs.1 hrewrite hfly]
    exact next_settleRequests hs.2
  · rw [exec_arbiterGrant hs, arbitrate_draining hlead hdrain hlock, State.grantLocked, if_neg (by simp [hflying])]
    exact next_settleRequests hs.2
  · rw [exec_arbiterGrant hs, arbitrate_draining hlead hdrain hlock, grantLocked_of_empty hempty hlead hdrain hx]
    exact next_settleRequests hs.2
  · rw [exec_arbiterGrant hs, arbitrate_held hlead hdrain hlock, hx]
    exact next_settleRequests hs.2
  · rw [exec_arbiterGrant hs, arbitrate_held hlead hdrain hlock, hx]
    exact next_settleRequests hs.2

end Sys2Proof.Machine
end


section
/-! What each requester of the memory-side port presents (R146), and what keeps it back (R149, R150). Settles O38. -/

namespace Sys2Proof.Machine

/-! ### What is in flight -/

theorem inFlightFor_iff (s : State) (o : Owner) : s.inFlightFor o = true ↔ ∃ f ∈ s.inFlight, f.owner = o := by
  simp [State.inFlightFor]

theorem inFlightFor_of_none {s : State} {o : Owner} (h : ¬ ∃ f ∈ s.inFlight, f.owner = o) : s.inFlightFor o = false := by
  rwa [← Bool.not_eq_true, inFlightFor_iff]

theorem presented_of_released {α : Type} {s : State} (hs : s.resetAsserted = false) (request : Option α) :
    s.presented request = request :=
  if_neg (by simp [hs])

section
variable {s : State} (hs : s.resetAsserted = false)
include hs

/-! ### The C-port (R131) -/

theorem forwardRequest_of_forwarding {t : Transfer} (hc : s.current = some { transfer := t, stage := .forwarding }) :
    s.forwardRequest = if s.inFlightFor .forward then none else some (forwarded t) := by
  rw [State.forwardRequest, presented_of_released hs, hc]

theorem forwardRequest_of_other (h : ∀ t, s.current ≠ some { transfer := t, stage := .forwarding }) :
    s.forwardRequest = none := by
  rw [State.forwardRequest, presented_of_released hs]
  split
  · next t hc => exact absurd hc (h t)
  · rfl

/-! ### The keep-raw copier (R61, R149) -/

theorem copyRequest_eq : s.copyRequest = s.copySlot.map fun sl => (.copy sl.tag, copyTransfer sl) :=
  presented_of_released hs _

theorem copyRequest_of_waiting {sl : IntakeSlot} {older newer : List IntakeSlot} (hsplit : s.intake = older ++ sl :: newer)
    (hwait : sl.copy = .waiting) (hold : ∀ x ∈ older, x.copy ≠ .waiting) :
    s.copyRequest = some (.copy sl.tag, copyTransfer sl) := by
  rw [copyRequest_eq hs, State.copySlot, hsplit, List.find?_append, List.find?_eq_none.2 fun x hx => by simpa using hold x hx,
    Option.none_or, List.find?_cons_of_pos (by simp [hwait])]
  rfl

theorem copyRequest_of_none (h : ∀ sl ∈ s.intake, sl.copy ≠ .waiting) : s.copyRequest = none := by
  rw [copyRequest_eq hs, State.copySlot, List.find?_eq_none.2 fun x hx => by simpa using h x hx]
  rfl

/-! ### The report writer and the command reader (R158, R173, R6, R7) -/

theorem statusRequest_eq : s.statusRequest
    = s.rewrite.bind fun n => if s.inFlightFor .status then none else some (.status, s.statusWrite n) := by
  rw [State.statusRequest, presented_of_released hs]
  cases s.rewrite <;> rfl

theorem commandRequest_eq : s.commandRequest
    = if s.inFlightFor .command then none else s.commandAddress.map fun a => (.command, lineRead a) :=
  presented_of_released hs _

/-! ### The placement engine (R86, R87) -/

theorem placementRequest_eq {tag : Nat} {e : Entry} (hpres : s.placePresented = some tag) (he : s.entry? tag = some e) :
    s.placementRequest = (entryTransfer e).map fun x => (.placement tag, x) := by
  have htag : e.tag = tag := by simpa [State.entry?] using List.find?_some he
  rw [State.placementRequest, presented_of_released hs, hpres, Option.bind_some, he, Option.bind_some, htag]

theorem placementRequest_of_none (hpres : s.placePresented = none) : s.placementRequest = none := by
  rw [State.placementRequest, presented_of_released hs, hpres]
  rfl

/-! ### The flat fetcher (R63) -/

theorem flatGrant_eq : s.flatGrant = s.flatRequest.map fun r => (.flat r.1, lineRead r.2) :=
  presented_of_released hs _

/-! ### The sweep engine (R104) -/

theorem sweepRequest_eq : s.sweepRequest = if s.sweepInFlight then none else s.sweep.map s.sweepTransfer :=
  presented_of_released hs _

end

/-! ### The data of a keep-raw copy (R61) -/

/-- The pixels of a slot, 2 bytes each, in ascending address order. -/
def pixelBytes (pixels : List SlotPixel) : Nat := pixels.foldr (fun px n => px.raw % 65536 + 65536 * n) 0

theorem bytesAt_pixelBytes : ∀ {pixels : List SlotPixel} {j : Nat} {px : SlotPixel}, pixels[j]? = some px →
    bytesAt (pixelBytes pixels) (2 * j) 2 = px.raw % 65536
  | first :: rest, 0, px, h => by
    obtain rfl : first = px := by simpa using h
    rw [bytesAt_eq, pixelBytes, List.foldr_cons]
    omega
  | first :: rest, j + 1, px, h => by
    have hhead : pixelBytes (first :: rest) / 65536 = pixelBytes rest := by
      change (first.raw % 65536 + 65536 * pixelBytes rest) / 65536 = pixelBytes rest
      omega
    have hpow : 2 ^ (8 * (2 * (j + 1))) = 65536 * 2 ^ (8 * (2 * j)) := by
      rw [show 8 * (2 * (j + 1)) = 16 + 8 * (2 * j) by ring, pow_add]
      rfl
    have hrest := bytesAt_pixelBytes (pixels := rest) (j := j) (by simpa using h)
    rw [bytesAt_eq] at hrest ⊢
    rw [hpow, ← Nat.div_div_eq_div_mul, hhead, hrest]

/-- A half-word of a number within a line's 32 bytes. -/
theorem bytesAt_ofNat_line {j : Nat} (hj : j < 16) (n : Nat) :
    bytesAt (BitVec.ofNat 256 n).toNat (2 * j) 2 = bytesAt n (2 * j) 2 := by
  have hpow : 2 ^ 256 = 2 ^ (8 * (2 * j)) * 2 ^ (256 - 8 * (2 * j)) := (pow_mul_pow_sub 2 (by omega)).symm
  rw [bytesAt_eq, bytesAt_eq, BitVec.toNat_ofNat, hpow, Nat.mod_mul_right_div_self,
    Nat.mod_mod_of_dvd _ (Nat.pow_dvd_pow 2 (by omega))]

/-! ### The first flat line due (R63) -/

/-- A flat line that the fetcher may present: PENDING, and not in flight. -/
def State.flatDue (s : State) (sl : IntakeSlot) (g : FlatLine) : Bool :=
  g.status == .pending && !s.inFlight.any fun f => f.owner == .flat sl.tag && f.transfer.addr == g.addr

theorem flatDue_iff (s : State) (sl : IntakeSlot) (g : FlatLine) :
    s.flatDue sl g = true ↔ g.status = .pending
      ∧ ∀ f ∈ s.inFlight, ¬ (f.owner = .flat sl.tag ∧ f.transfer.addr = g.addr) := by
  simp [State.flatDue]

theorem flatRequest_eq (s : State) : s.flatRequest
    = (s.intake.flatMap fun sl => (sl.flats.filter (s.flatDue sl)).map fun g => (sl.tag, g.addr)).head? := rfl

theorem flatRequest_of_due {s : State} {sl : IntakeSlot} {g : FlatLine} {older newer : List IntakeSlot}
    {before after : List FlatLine} (hsplit : s.intake = older ++ sl :: newer) (hflats : sl.flats = before ++ g :: after)
    (hdue : s.flatDue sl g = true) (hold : ∀ x ∈ older, ∀ h ∈ x.flats, ¬ s.flatDue x h = true)
    (hbefore : ∀ h ∈ before, ¬ s.flatDue sl h = true) : s.flatRequest = some (sl.tag, g.addr) := by
  have holder : (older.flatMap fun x => (x.flats.filter (s.flatDue x)).map fun g => (x.tag, g.addr)) = [] :=
    List.flatMap_eq_nil_iff.2 fun x hx => by rw [List.filter_eq_nil_iff.2 (hold x hx)]; rfl
  have hfirst : sl.flats.filter (s.flatDue sl) = g :: after.filter (s.flatDue sl) := by
    rw [hflats, List.filter_append, List.filter_eq_nil_iff.2 hbefore, List.nil_append, List.filter_cons_of_pos hdue]
  rw [flatRequest_eq, hsplit, List.flatMap_append, holder, List.nil_append, List.flatMap_cons, hfirst]
  rfl

theorem flatRequest_of_none {s : State} (h : ∀ sl ∈ s.intake, ∀ g ∈ sl.flats, ¬ s.flatDue sl g = true) :
    s.flatRequest = none := by
  rw [flatRequest_eq, List.flatMap_eq_nil_iff.2 fun x hx => by rw [List.filter_eq_nil_iff.2 (h x hx)]; rfl]
  rfl

/-! ### What keeps a copy and a sweep back (R149, R150) -/

theorem touchesLine_iff (x : MemTransfer) (line : Nat) :
    x.touchesLine line = true ↔ (∀ level, x.op ≠ .acknowledge level) ∧ overlaps x.addr x.size.bytes line 32 = true := by
  cases hop : x.op <;> simp [MemTransfer.touchesLine, hop]

theorem copyOver_eq_false_iff (f : InFlight) (a la : Nat) :
    f.copyOver a la = false ↔ ∀ slot, f.owner = .copy slot → overlaps f.transfer.addr f.transfer.size.bytes a la = false := by
  cases ho : f.owner <;> simp [InFlight.copyOver, ho]

theorem unwrittenOver_nonempty (s : State) (a la : Nat) :
    (s.unwrittenOver a la).isEmpty = false
      ↔ (∃ sl ∈ s.intake, sl.copy = .waiting ∧ overlaps sl.addr sl.size.bytes a la = true)
        ∨ ∃ f ∈ s.inFlight, (∃ slot, f.owner = .copy slot)
          ∧ overlaps f.transfer.addr f.transfer.size.bytes a la = true := by
  rw [List.isEmpty_eq_false_iff_exists_mem]
  simp only [mem_unwrittenOver]
  constructor
  · rintro ⟨slot, ⟨sl, hsl, -, hwait, hover⟩ | ⟨f, hf, hslot, hover⟩⟩
    · exact .inl ⟨sl, hsl, hwait, hover⟩
    · exact .inr ⟨f, hf, ⟨slot, hslot⟩, hover⟩
  · rintro (⟨sl, hsl, hwait, hover⟩ | ⟨f, hf, ⟨slot, hslot⟩, hover⟩)
    · exact ⟨sl.tag, .inl ⟨sl, hsl, rfl, hwait, hover⟩⟩
    · exact ⟨slot, .inr ⟨f, hf, hslot, hover⟩⟩

theorem engine_of_restartDraining {s : State} (h : s.restartDraining = true) : ∃ c, s.engine = .executing c .draining := by
  unfold State.restartDraining at h
  split at h
  · next c heng => exact ⟨c, heng⟩
  · cases h

/-- Settles O38. -/
theorem requestersPresentTheirTransfers : Obligations.RequestersPresentTheirTransfers := by
  intro s hs read write touches flying due sweeps
  have hdue (sl : IntakeSlot) (g : FlatLine) : s.flatDue sl g = true ↔ due sl g := flatDue_iff s sl g
  have hsweeps : s.sweepInFlight = true ↔ sweeps := by simp [State.sweepInFlight, sweeps]
  refine ⟨fun t hc => ⟨fun hno => ?_, fun hfly => ?_⟩, forwardRequest_of_other hs, fun sl older newer hsplit hwait hold => ?_,
    copyRequest_of_none hs, fun g => ?_, fun n hn hno => ?_, fun h => ?_, fun c phase heng hno => ⟨?_, ?_⟩, fun h => ?_,
    fun tag e hpres he => ⟨fun hstate => ?_, fun image fates hstate => ?_⟩, placementRequest_of_none hs,
    fun sl older newer g before after hsplit hflats hg hold hbefore => ?_, fun h => ?_, fun w hw hno => ?_, fun h => ?_,
    fun line => ?_⟩
  · rw [forwardRequest_of_forwarding hs hc, inFlightFor_of_none hno]
    rfl
  · rw [forwardRequest_of_forwarding hs hc, if_pos ((inFlightFor_iff s _).2 hfly)]
  · refine ⟨BitVec.ofNat 256 (pixelBytes sl.pixels), copyRequest_of_waiting hs hsplit hwait hold, fun j px hj hpx => ?_⟩
    rw [bytesAt_ofNat_line hj, bytesAt_pixelBytes hpx]
  · rw [State.copyGrant, Option.filter_eq_some_iff]
    simp only [Bool.not_eq_true', List.any_eq_false, Bool.not_eq_true, copyOver_eq_false_iff]
  · rw [statusRequest_eq hs, hn, Option.bind_some, inFlightFor_of_none hno]
    rfl
  · rw [statusRequest_eq hs]
    rcases h with h | h
    · rw [h]
      rfl
    · rw [(inFlightFor_iff s _).2 h]
      cases s.rewrite <;> rfl
  · rintro first rfl
    rw [commandRequest_eq hs, inFlightFor_of_none hno, State.commandAddress, heng]
    cases first <;> rfl
  · rintro i first (⟨windows, rfl⟩ | rfl)
    all_goals
      rw [commandRequest_eq hs, inFlightFor_of_none hno, State.commandAddress, heng]
      cases first <;> simp [lineRead, read]
  · rw [commandRequest_eq hs]
    rcases h with h | ⟨c, was, h⟩ | h | h
    · simp [State.commandAddress, h]
    · simp [State.commandAddress, h]
    · obtain ⟨c, heng⟩ := engine_of_restartDraining h
      simp [State.commandAddress, heng]
    · exact if_pos ((inFlightFor_iff s _).2 h)
  · rw [placementRequest_eq hs hpres he, entryTransfer, hstate]
    rfl
  · rw [placementRequest_eq hs hpres he, entryTransfer, hstate]
    rfl
  · rw [flatGrant_eq hs, flatRequest_of_due hsplit hflats ((hdue sl g).2 hg) (fun x hx h hh => by rw [hdue]; exact hold x hx h hh)
      (fun h hh => by rw [hdue]; exact hbefore h hh)]
    rfl
  · rw [flatGrant_eq hs, flatRequest_of_none fun sl hsl g hg => by rw [hdue]; exact h sl hsl g hg]
    rfl
  · have hrequest : s.sweepRequest = some (s.sweepTransfer w) := by
      rw [sweepRequest_eq hs, if_neg (by rwa [hsweeps]), hw]
      rfl
    rw [hrequest]
    refine ⟨fun h => ?_, fun h => ?_, fun lo h => ?_, fun line h => ?_⟩ <;> rw [State.sweepTransfer, h] <;> rfl
  · rw [sweepRequest_eq hs]
    rcases h with h | h
    · simp [h]
    · exact if_pos (hsweeps.2 h)
  · simp only [State.forwardTouches, Bool.or_eq_true, Option.any_eq_true, List.any_eq_true, Bool.and_eq_true, beq_iff_eq,
      touchesLine_iff, Bool.not_eq_true', unwrittenOver_nonempty, or_assoc]
    rfl

end Sys2Proof.Machine
end


section
/-! The calibration unit: its flat value (R64 to R66), its decision (R67), and the hand-over (R73, R85). Settles O25. -/

namespace Sys2Proof.Machine

/-! ### The flat value (R64 to R66) -/

/-- The flat value at address `a`, by the status of its line, with its substitution mark (R64 to R66). -/
def FlatStatus.value (a : Nat) : FlatStatus → Option (Nat × Bool)
  | .read line => some (flatValueAt line a, false)
  | .faulted => some (16384, true)
  | .pending => none

theorem flatInput_of_no_plane {sl : IntakeSlot} (h : sl.record.flatBase = none) (row col : Nat) :
    flatInput sl row col = some (16384, false) := by
  rw [flatInput, h]

section
variable {sl : IntakeSlot} {fb row col : Nat} (hfb : sl.record.flatBase = some fb)
include hfb

theorem flatInput_of_no_line (h : ∀ f ∈ sl.flats, f.addr ≠ lineOf (flatAddress fb sl.record row col)) :
    flatInput sl row col = none := by
  have hfind : (sl.flats.find? fun f => f.addr == lineOf (flatAddress fb sl.record row col)) = none :=
    List.find?_eq_none.2 fun f hf => by simpa using h f hf
  rw [flatInput, hfb]
  simp only [hfind, Option.map_none]

/-- The flat value by the status of the pixel's line, the first of the slot at its address. -/
theorem flatInput_of_line {f : FlatLine} {older newer : List FlatLine} (hsplit : sl.flats = older ++ f :: newer)
    (haddr : f.addr = lineOf (flatAddress fb sl.record row col))
    (hold : ∀ g ∈ older, g.addr ≠ lineOf (flatAddress fb sl.record row col)) :
    flatInput sl row col = f.status.value (flatAddress fb sl.record row col) := by
  have hfind : (sl.flats.find? fun f => f.addr == lineOf (flatAddress fb sl.record row col)) = some f := by
    rw [hsplit, List.find?_append, List.find?_eq_none.2 fun g hg => by simpa using hold g hg, Option.none_or,
      List.find?_cons_of_pos (by simpa using haddr)]
  rw [flatInput, hfb]
  dsimp only
  rw [hfind, Option.map_some]
  cases f.status <;> rfl

end

theorem flatValueAt_of_ne {a : Nat} (h : a % 32 ≠ 31) (line : Line) :
    flatValueAt line a = line.toNat / 2 ^ (8 * (a % 32)) % 65536 := by
  rw [flatValueAt, if_neg h, bytesAt_eq]
  rfl

theorem flatValueAt_of_eq {a : Nat} (h : a % 32 = 31) (line : Line) : flatValueAt line a ≤ 65535 := by
  rw [flatValueAt, if_pos h]
  exact Nat.le_of_lt_succ (Config.flatPastLine line).isLt

/-! ### The decision (R66, R67) -/

theorem classify_masked (sl : IntakeSlot) (E raw : Nat) : classify sl E raw 0 false = .masked := rfl

theorem classify_saturated {sl : IntakeSlot} {E raw F : Nat} {substituted : Bool} (hF : F ≠ 0 ∨ substituted = true)
    (h : sl.record.S ≤ raw) : classify sl E raw F substituted = .contribution .satOnly := by
  rw [classify, if_neg (by rcases hF with hF | hF <;> simp [hF]), if_pos h]

theorem classify_value {sl : IntakeSlot} {E raw F : Nat} {substituted : Bool} (hF : F ≠ 0 ∨ substituted = true)
    (h : raw < sl.record.S) : classify sl E raw F substituted
      = .contribution (.add (contributionValue raw sl.B sl.record.G E F) substituted) := by
  rw [classify, if_neg (by rcases hF with hF | hF <;> simp [hF]), if_neg h.not_ge]

section
variable {sl : IntakeSlot} {e : Exposure} {k : StackRecord} {raw row col : Nat}

theorem decisionOf_offFrame (h : onFrame k (mosaicOf sl.record e.dx e.dy row col) = false) :
    decisionOf sl e k raw row col = .offFrame :=
  if_neg (by simp [h])

theorem decisionOf_wait (h : onFrame k (mosaicOf sl.record e.dx e.dy row col) = true) (hflat : flatInput sl row col = none) :
    decisionOf sl e k raw row col = .wait := by
  rw [decisionOf, if_pos h, hflat]

theorem decisionOf_classify {F : Nat} {substituted : Bool} (h : onFrame k (mosaicOf sl.record e.dx e.dy row col) = true)
    (hflat : flatInput sl row col = some (F, substituted)) :
    decisionOf sl e k raw row col = classify sl e.E raw F substituted := by
  rw [decisionOf, if_pos h, hflat]

end

/-! ### The step of the calibration unit (R66, R73, R85) -/

/-- The step decides the pixel at the working slot's cursor. -/
theorem exec_calibratePixel {sl : IntakeSlot} {e : Exposure} {raw row col : Nat} {s : State} (hs : s.Running)
    (hwork : s.settleIntake.workingSlot = some sl)
    (hpx : sl.pixels[sl.cursor]? = some { raw := raw, cls := .data row col, taken := true })
    (he : sl.exposure.bind s.exposure? = some e) :
    exec .calibratePixel s = .next (s.settleIntake.decidePixel sl e raw row col).settleRequests := by
  have hexec : exec .calibratePixel s = .next s.settleIntake.calibrate.settleRequests :=
    act_of_released (f := fun s => s.settleIntake.calibrate) hs.1
  have he' : sl.exposure.bind s.settleIntake.exposure? = some e := he
  rw [hexec, State.calibrate, hwork]
  simp only [hpx, he']

/-- The hand-over of a contribution: on its acceptance it is compared with the watch entries and the cursor moves on; refused,
nothing changes. -/
theorem decidePixel_contribution {sl : IntakeSlot} {e : Exposure} {raw row col : Nat} {kind : ContribKind} {s : State}
    (h : decisionOf sl e (s.stack e.stackSlot) raw row col = .contribution kind) :
    let c := contributionAt e kind (mosaicOf sl.record e.dx e.dy row col)
    let a := cellAddress (s.stack e.stackSlot) c.x c.y
    s.decidePixel sl e raw row col = ((s.acceptContribution (lineOf a) (laneIndex a) c).map fun v =>
      (v.watchCompare c).advanceCursor sl.tag).getD s := by
  intro c a
  unfold State.decidePixel
  simp only [h]
  change (match (s.acceptContribution (lineOf a) (laneIndex a) c).map fun v => v.watchCompare c with
    | some v => v.advanceCursor sl.tag
    | none => s) = _
  cases s.acceptContribution (lineOf a) (laneIndex a) c <;> rfl

/-- Settles O25. -/
theorem calibrationDecidesThePixelAtItsCursor : Obligations.CalibrationDecidesThePixelAtItsCursor := by
  refine ⟨fun s => ⟨settleIntake_frame s, settleIntake_settles s⟩,
    fun slot s => ⟨_, rfl, rfl, settleIntake_settles (s.updateSlot slot fun sl => { sl with cursor := sl.cursor + 1 })⟩,
    fun sl row col => ⟨fun h => flatInput_of_no_plane h row col, ?_⟩, ?_⟩
  · intro fb hfb a
    refine ⟨flatInput_of_no_line hfb, fun f older newer hsplit haddr hold => ?_⟩
    have hflat := flatInput_of_line hfb (row := row) (col := col) hsplit haddr hold
    refine ⟨fun h => ?_, fun h => ?_, fun line h hne => ?_, fun line h heq => ?_⟩
    · rw [hflat, h, FlatStatus.value]
    · rw [hflat, h, FlatStatus.value]
    · rw [hflat, h]
      exact congrArg (fun F => some (F, false)) (flatValueAt_of_ne hne line)
    · exact ⟨_, flatValueAt_of_eq heq line, by rw [hflat, h]; rfl⟩
  · intro sl e raw row col s hs w hwork hpx he p k a tallied offered handedOver
    have hexec := exec_calibratePixel hs hwork hpx he
    have hw : w.Settled := hs.2
    have hstack : w.stack e.stackSlot = k := rfl
    have hhand (kind : ContribKind) (h : decisionOf sl e k raw row col = .contribution kind) : handedOver kind := by
      have hdecide := decidePixel_contribution (s := w) h
      change w.decidePixel sl e raw row col = Option.getD (Option.map _
        (w.acceptContribution (lineOf a) (laneIndex a) (offered kind))) w at hdecide
      rw [hdecide] at hexec
      simp only [handedOver]
      cases hacc : w.acceptContribution (lineOf a) (laneIndex a) (offered kind) with
      | some v =>
        rw [hacc] at hexec
        exact hexec
      | none =>
        rw [hacc] at hexec
        exact hexec.trans (next_settleRequests hw)
    refine ⟨fun hoff => ?_, fun hon hwait => ?_, fun hon hmask => ?_, fun F substituted hon hflat hF => ⟨fun hsat => ?_,
      fun hvalue => ?_⟩⟩
    · rw [hexec, State.decidePixel, hstack, decisionOf_offFrame hoff]
      rfl
    · rw [hexec, State.decidePixel, hstack, decisionOf_wait hon hwait]
      exact next_settleRequests hw
    · rw [hexec, State.decidePixel, hstack, decisionOf_classify hon hmask, classify_masked]
      rfl
    · exact hhand _ ((decisionOf_classify hon hflat).trans (classify_saturated hF hsat))
    · exact hhand _ ((decisionOf_classify hon hflat).trans (classify_value hF hvalue))

end Sys2Proof.Machine
end


section
/-! Numbers laid out in bytes (R176): a record as the sum of its fields at their offsets, what its bytes read back, and a
structure cut into lines. -/

namespace Sys2Proof.Machine

/-! ### Fields at their offsets -/

/-- The number whose bytes hold the fields given, each with its offset, its size and its value. -/
def fieldSum (fields : List (Nat × Nat × Nat)) : Nat := (fields.map fun f => placeAt f.1 f.2.1 f.2.2).sum

/-- The offset and the size of a field. -/
def span (f : Nat × Nat × Nat) : Nat × Nat := (f.1, f.2.1)

/-- Fields that lie apart, within the first `size` bytes. -/
def Spaced (size : Nat) (spans : List (Nat × Nat)) : Prop :=
  spans.Pairwise (fun x y => x.1 + x.2 ≤ y.1 ∨ y.1 + y.2 ≤ x.1) ∧ ∀ x ∈ spans, x.1 + x.2 ≤ size

theorem fieldSum_nil : fieldSum [] = 0 := rfl

theorem fieldSum_cons (f : Nat × Nat × Nat) (rest : List (Nat × Nat × Nat)) :
    fieldSum (f :: rest) = placeAt f.1 f.2.1 f.2.2 + fieldSum rest := by
  rw [fieldSum, List.map_cons, List.sum_cons, fieldSum]

theorem fieldSum_append (a b : List (Nat × Nat × Nat)) : fieldSum (a ++ b) = fieldSum a + fieldSum b := by
  rw [fieldSum, List.map_append, List.sum_append, fieldSum, fieldSum]

/-- Fields summed up from the right, one for each element of a list. -/
theorem foldr_placeAt {α : Type} (f : α → Nat × Nat × Nat) (l : List α) :
    l.foldr (fun x n => n + placeAt (f x).1 (f x).2.1 (f x).2.2) 0 = fieldSum (l.map f) := by
  induction l with
  | nil => rfl
  | cons x l ih =>
    rw [List.foldr_cons, ih, List.map_cons, fieldSum_cons, Nat.add_comm]

/-- A sum without carries is the union of the bits. -/
theorem add_eq_or_of_and_eq_zero {a b : Nat} (h : a &&& b = 0) : a + b = a ||| b := by
  have hlt : a + b < 2 ^ (a + b) := Nat.lt_two_pow_self
  have hbits : BitVec.ofNat (a + b) a &&& BitVec.ofNat (a + b) b = 0#(a + b) := by
    rw [← BitVec.ofNat_and, h]
  have hsum := congrArg BitVec.toNat (BitVec.add_eq_or_of_and_eq_zero _ _ hbits)
  rw [← BitVec.ofNat_add, ← BitVec.ofNat_or, BitVec.toNat_ofNat, BitVec.toNat_ofNat, Nat.mod_eq_of_lt hlt] at hsum
  rw [hsum, Nat.mod_eq_of_lt (Nat.or_lt_two_pow (by omega) (by omega))]

theorem testBit_placeAt (off size v i : Nat) :
    (placeAt off size v).testBit i = (decide (8 * off ≤ i ∧ i < 8 * (off + size)) && v.testBit (i - 8 * off)) := by
  rw [placeAt, Nat.testBit_shiftLeft, Nat.testBit_mod_two_pow, ← Bool.and_assoc]
  congr 1
  rw [← Bool.decide_and, decide_eq_decide]
  omega

/-- The bits of a sum of fields that lie apart are those of its fields. -/
theorem testBit_fieldSum : ∀ {fields : List (Nat × Nat × Nat)} {size : Nat}, Spaced size (fields.map span) → ∀ i,
    (fieldSum fields).testBit i = true
      ↔ ∃ f ∈ fields, (8 * f.1 ≤ i ∧ i < 8 * (f.1 + f.2.1)) ∧ f.2.2.testBit (i - 8 * f.1) = true
  | [], _, _, i => by simp [fieldSum]
  | f :: rest, size, h, i => by
    obtain ⟨hapart, hin⟩ := h
    rw [List.map_cons, List.pairwise_cons] at hapart
    have hrest := testBit_fieldSum (fields := rest) (size := size)
      ⟨hapart.2, fun x hx => hin x (List.mem_cons_of_mem _ hx)⟩
    have hsum : fieldSum (f :: rest) = placeAt f.1 f.2.1 f.2.2 ||| fieldSum rest := by
      rw [fieldSum_cons]
      refine add_eq_or_of_and_eq_zero (Nat.eq_of_testBit_eq fun j => ?_)
      rw [Nat.testBit_and, Nat.zero_testBit, Bool.and_eq_false_iff, ← Bool.not_eq_true, ← Bool.not_eq_true, ← not_and_or,
        testBit_placeAt, Bool.and_eq_true, decide_eq_true_eq, hrest]
      rintro ⟨⟨hf, -⟩, g, hg, hcover, -⟩
      have hfg := hapart.1 (span g) (List.mem_map_of_mem hg)
      simp only [span] at hfg
      omega
    rw [hsum, Nat.testBit_or, Bool.or_eq_true, hrest, testBit_placeAt, Bool.and_eq_true, decide_eq_true_eq]
    simp

/-- A sum of fields within `size` bytes is a number of that many bytes. -/
theorem fieldSum_lt {fields : List (Nat × Nat × Nat)} {size : Nat} (h : Spaced size (fields.map span)) :
    fieldSum fields < 2 ^ (8 * size) := by
  refine Nat.lt_pow_two_of_testBit _ fun i hi => ?_
  rw [← Bool.not_eq_true, testBit_fieldSum h]
  rintro ⟨f, hf, hcover, -⟩
  have hin := h.2 (span f) (List.mem_map_of_mem hf)
  simp only [span] at hin
  omega

/-- A sum of fields that lie apart is laid out as its fields say. -/
theorem fieldSum_laidOut {fields : List (Nat × Nat × Nat)} {size : Nat} (h : Spaced size (fields.map span)) :
    LaidOut (fieldSum fields) size fields := by
  refine ⟨fun f hf => Nat.eq_of_testBit_eq fun i => ?_, fun k _ hk => Nat.eq_of_testBit_eq fun i => ?_⟩
  · rw [bytesAt, Nat.testBit_mod_two_pow, Nat.testBit_shiftRight, Nat.testBit_mod_two_pow]
    by_cases hi : i < 8 * f.2.1
    · rw [decide_eq_true hi, Bool.true_and, Bool.true_and, Bool.eq_iff_iff, testBit_fieldSum h]
      constructor
      · rintro ⟨g, hg, hcover, hbit⟩
        have hsame : f = g := by
          by_contra hne
          have hsymm : Std.Symm fun x y : Nat × Nat × Nat =>
              (span x).1 + (span x).2 ≤ (span y).1 ∨ (span y).1 + (span y).2 ≤ (span x).1 := ⟨fun _ _ => Or.symm⟩
          have hapart := (List.pairwise_map.1 h.1).forall hf hg hne
          simp only [span] at hapart
          omega
        rw [← hsame, Nat.add_sub_cancel_left] at hbit
        exact hbit
      · exact fun hbit => ⟨f, hf, by omega, by rwa [Nat.add_sub_cancel_left]⟩
    · rw [decide_eq_false hi, Bool.false_and, Bool.false_and]
  · rw [bytesAt, Nat.testBit_mod_two_pow, Nat.testBit_shiftRight, Nat.zero_testBit]
    by_cases hi : i < 8 * 1
    · rw [decide_eq_true hi, Bool.true_and, ← Bool.not_eq_true, testBit_fieldSum h]
      rintro ⟨g, hg, hcover, -⟩
      exact hk g hg (by omega)
    · rw [decide_eq_false hi, Bool.false_and]

end Sys2Proof.Machine
end


section
/-! The status block: its records as fields (R176), its lines (R173), and its writes. Settles O36. -/

namespace Sys2Proof.Machine

/-! ### Layouts within larger numbers -/

/-- A layout reads the first `size` bytes only. -/
theorem laidOut_mod {n size : Nat} {fields : List (Nat × Nat × Nat)} (h : LaidOut n size fields)
    (hin : ∀ f ∈ fields, f.1 + f.2.1 ≤ size) : LaidOut (n % 2 ^ (8 * size)) size fields := by
  obtain ⟨hfields, hrest⟩ := h
  refine ⟨fun f hf => ?_, fun k hk hnone => ?_⟩
  · rw [bytesAt_mod (Nat.mul_le_mul_left 8 (hin f hf)), hfields f hf]
  · rw [bytesAt_mod (by omega), hrest k hk hnone]

theorem spaced_within {fields : List (Nat × Nat × Nat)} {size : Nat} (h : Spaced size (fields.map span)) :
    ∀ f ∈ fields, f.1 + f.2.1 ≤ size :=
  fun f hf => h.2 (span f) (List.mem_map_of_mem hf)

/-- A record that is the first `size` bytes of a number. -/
theorem laidOut_of_fields {n x size : Nat} {fields : List (Nat × Nat × Nat)} (h : Spaced size (fields.map span))
    (hx : x = fieldSum fields) (hn : n = x % 2 ^ (8 * size)) : LaidOut n size fields := by
  rw [hn, hx]
  exact laidOut_mod (fieldSum_laidOut h) (spaced_within h)

/-- The lines of a structure, put together again, are its bytes. -/
theorem foldr_lines {line : Nat → Nat} {x : Nat} : ∀ (n : Nat), (∀ j < n, line j = bytesAt x (32 * j) 32) → ∀ r,
    (List.range n).foldr (fun j rest => line j % 2 ^ 256 + 2 ^ 256 * rest) r = x % 2 ^ (256 * n) + 2 ^ (256 * n) * r
  | 0, _, r => by simp [Nat.mod_one]
  | n + 1, h, r => by
    have hbytes : bytesAt x (32 * n) 32 % 2 ^ 256 = x / 2 ^ (256 * n) % 2 ^ 256 := by
      rw [bytesAt_eq, Nat.mod_mod, show 8 * (32 * n) = 256 * n by ring]
    have hpow : 2 ^ (256 * (n + 1)) = 2 ^ (256 * n) * 2 ^ 256 := by rw [Nat.mul_succ, pow_add]
    rw [List.range_succ, List.foldr_append, List.foldr_cons, List.foldr_nil, h n (by omega), hbytes,
      foldr_lines n (fun j hj => h j (by omega)), hpow, Nat.mod_mul, Nat.mul_add, Nat.mul_assoc, Nat.add_assoc]

/-! ### The records (R176) -/

def talliesFields (off : Nat) (t : Tallies) : List (Nat × Nat × Nat) :=
  [(off, 4, t.taken), (off + 4, 4, t.offFrame), (off + 8, 4, t.masked), (off + 12, 4, t.saturated), (off + 16, 4, t.placed),
    (off + 20, 4, t.overflow), (off + 24, 4, t.lost), (off + 28, 4, t.degraded)]

theorem talliesAt_eq (off : Nat) (t : Tallies) : talliesAt off t = fieldSum (talliesFields off t) := by
  simp only [talliesAt, talliesFields, fieldSum_cons, fieldSum_nil, Nat.add_assoc, Nat.add_zero]

def exposureFields (e : Exposure) : List (Nat × Nat × Nat) :=
  [(0, 2, e.id), (2, 1, e.stackSlot.number), (3, 1, e.state.byte), (4, 1, cutByte e.cutReason),
    (5, 1, outcomeByte e.outcome), (6, 1, bit e.timer.isSome), (8, 4, e.outstanding), (0x10, 16, e.ended.toNat)]
    ++ talliesFields 0x20 e.tallies

theorem exposureBytes_eq (e : Exposure) : exposureBytes e = fieldSum (exposureFields e) := by
  rw [exposureFields, fieldSum_append, ← talliesAt_eq]
  simp only [exposureBytes, fieldSum_cons, fieldSum_nil, Nat.add_assoc, Nat.add_zero]

theorem exposureFields_spaced (e : Exposure) : Spaced 64 ((exposureFields e).map span) := by
  have hspans : (exposureFields e).map span = [(0, 2), (2, 1), (3, 1), (4, 1), (5, 1), (6, 1), (8, 4), (0x10, 16), (0x20, 4),
    (0x24, 4), (0x28, 4), (0x2C, 4), (0x30, 4), (0x34, 4), (0x38, 4), (0x3C, 4)] := rfl
  rw [hspans]
  unfold Spaced
  decide

def retiredFields (e : Retired) : List (Nat × Nat × Nat) :=
  [(0, 2, e.id), (2, 1, e.stackSlot.number), (3, 1, outcomeByte e.outcome), (4, 1, cutByte e.cutReason),
    (8, 2, unsignedOf 16 e.dx), (0x0A, 2, unsignedOf 16 e.dy)] ++ talliesFields 0x10 e.tallies

theorem retiredBytes_eq (e : Retired) : retiredBytes e = fieldSum (retiredFields e) := by
  rw [retiredFields, fieldSum_append, ← talliesAt_eq]
  simp only [retiredBytes, fieldSum_cons, fieldSum_nil, Nat.add_assoc, Nat.add_zero]

theorem retiredFields_spaced (e : Retired) : Spaced 48 ((retiredFields e).map span) := by
  have hspans : (retiredFields e).map span = [(0, 2), (2, 1), (3, 1), (4, 1), (8, 2), (0x0A, 2), (0x10, 4), (0x14, 4),
    (0x18, 4), (0x1C, 4), (0x20, 4), (0x24, 4), (0x28, 4), (0x2C, 4)] := rfl
  rw [hspans]
  unfold Spaced
  decide

def stackFields (k : StackSlot) (r : StackRecord) : List (Nat × Nat × Nat) :=
  [(0, 8, r.cellBase), (8, 8, r.outputBase), (0x10, 2, r.width), (0x12, 2, r.height), (0x14, 2, r.cursor),
    (0x16, 1, r.Nrej), (0x17, 1, r.state.number), (0x18, 1, r.refCount), (0x19, 1, k.number)]

theorem stackBytes_eq (k : StackSlot) (r : StackRecord) : stackBytes k r = fieldSum (stackFields k r) := by
  simp only [stackBytes, stackFields, fieldSum_cons, fieldSum_nil, Nat.add_assoc, Nat.add_zero]

theorem stackFields_spaced (k : StackSlot) (r : StackRecord) : Spaced 32 ((stackFields k r).map span) := by
  have hspans : (stackFields k r).map span = [(0, 8), (8, 8), (0x10, 2), (0x12, 2), (0x14, 2), (0x16, 1), (0x17, 1), (0x18, 1),
    (0x19, 1)] := rfl
  rw [hspans]
  unfold Spaced
  decide

def hitFields (h : HitRecord) : List (Nat × Nat × Nat) :=
  [(0x0C, 2, h.exposure), (0x10, 2, h.x), (0x12, 2, h.y)]
    ++ match h.value with
      | .add V => [(6, 1, 1), (0x14, 4, unsignedOf 32 V)]
      | .sat => [(6, 1, 2)]

theorem hitBytes_eq (h : Option HitRecord) : hitBytes h = fieldSum (h.elim [] hitFields) := by
  rcases h with _ | ⟨exposure, x, y, value⟩
  · rfl
  · cases value <;>
      simp only [hitBytes, hitFields, Option.elim_some, fieldSum_append, fieldSum_cons, fieldSum_nil, Nat.add_assoc,
        Nat.add_zero]

def watchFields (w : WatchEntry) : List (Nat × Nat × Nat) :=
  [(0, 1, bit w.enabled), (1, 1, w.stackSlot.number), (2, 2, w.x), (4, 2, w.y), (8, 4, unsignedOf 32 w.threshold),
    (0x0E, 2, w.hitCount)] ++ w.hit.elim [] hitFields

theorem watchBytes_eq (w : WatchEntry) : watchBytes w = fieldSum (watchFields w) := by
  rw [watchFields, fieldSum_append, ← hitBytes_eq]
  simp only [watchBytes, fieldSum_cons, fieldSum_nil, Nat.add_assoc, Nat.add_zero]

theorem watchFields_spaced (w : WatchEntry) : Spaced 32 ((watchFields w).map span) := by
  obtain ⟨enabled, slot, x, y, threshold, hit, hitCount⟩ := w
  rcases hit with _ | ⟨exposure, hx, hy, value⟩
  · change Spaced 32 [(0, 1), (1, 1), (2, 2), (4, 2), (8, 4), (0x0E, 2)]
    unfold Spaced
    decide
  · cases value with
    | add V =>
      change Spaced 32 [(0, 1), (1, 1), (2, 2), (4, 2), (8, 4), (0x0E, 2), (0x0C, 2), (0x10, 2), (0x12, 2), (6, 1), (0x14, 4)]
      unfold Spaced
      decide
    | sat =>
      change Spaced 32 [(0, 1), (1, 1), (2, 2), (4, 2), (8, 4), (0x0E, 2), (0x0C, 2), (0x10, 2), (0x12, 2), (6, 1)]
      unfold Spaced
      decide

def progressFields (p : Progress) : List (Nat × Nat × Nat) :=
  [(4, 4, p.count), (8, 4, p.B)]
    ++ match p.state with
      | .idle => []
      | .armed id => [(0, 1, 1), (2, 2, id)]
      | .reading id => [(0, 1, 2), (2, 2, id)]

theorem progressBytes_eq (p : Progress) : progressBytes p = fieldSum (progressFields p) := by
  obtain ⟨state, count, B, acc⟩ := p
  cases state <;>
    simp only [progressBytes, ProgressState.bytes, progressFields, fieldSum_append, fieldSum_cons,
      fieldSum_nil] <;> omega

theorem progressFields_spaced (p : Progress) : Spaced 16 ((progressFields p).map span) := by
  obtain ⟨state, count, B, acc⟩ := p
  cases state with
  | idle =>
    change Spaced 16 [(4, 4), (8, 4)]
    unfold Spaced
    decide
  | armed id =>
    change Spaced 16 [(4, 4), (8, 4), (0, 1), (2, 2)]
    unfold Spaced
    decide
  | reading id =>
    change Spaced 16 [(4, 4), (8, 4), (0, 1), (2, 2)]
    unfold Spaced
    decide

/-! ### The head line and the counter line (R176, R170) -/

/-- The attention line and the straps, one byte each. -/
def State.pinsWord (s : State) : Nat := bit s.attn + 256 * s.level.toNat + 65536 * s.base.toNat

def State.headFields (s : State) : List (Nat × Nat × Nat) :=
  [(0, 4, 0x4A4D0416), (4, 1, s.engine.number), (5, 1, s.last.tag.toNat), (6, 1, s.last.code.toNat),
    (7, 1, s.last.result.number), (8, 2, s.last.detail), (12, 4, s.flags.toNat), (16, 4, s.enables.toNat),
    (20, 4, s.pinsWord)]

theorem headLine_eq (s : State) : s.headLine = fieldSum s.headFields := by
  simp only [State.headLine, State.headFields, State.pinsWord, fieldSum_cons, fieldSum_nil, Nat.add_assoc, Nat.add_zero]

theorem headFields_spaced (s : State) : Spaced 32 (s.headFields.map span) := by
  have hspans : s.headFields.map span = [(0, 4), (4, 1), (5, 1), (6, 1), (7, 1), (8, 2), (12, 4), (16, 4), (20, 4)] := rfl
  rw [hspans]
  unfold Spaced
  decide

/-- A field of the head line whose value fits. -/
theorem bytesAt_headLine {s : State} {off size v : Nat} (h : (off, size, v) ∈ s.headFields) (hv : v < 2 ^ (8 * size)) :
    bytesAt s.headLine off size = v := by
  rw [headLine_eq, (fieldSum_laidOut (headFields_spaced s)).1 _ h, Nat.mod_eq_of_lt hv]

theorem pinsWord_bytes (s : State) : s.pinsWord < 2 ^ 32 ∧ s.pinsWord.testBit 0 = s.attn
    ∧ s.pinsWord / 256 % 256 = s.level.toNat ∧ s.pinsWord / 65536 % 256 = s.base.toNat := by
  have hlevel := s.level.isLt
  have hbase := s.base.isLt
  have hbit : bit s.attn ≤ 1 := by cases s.attn <;> decide
  rw [State.pinsWord]
  refine ⟨by omega, ?_, by omega, by omega⟩
  have hone : bit s.attn = 1 ↔ s.attn = true := by cases s.attn <;> decide
  rw [Nat.testBit_zero, Bool.eq_iff_iff, decide_eq_true_eq, ← hone]
  omega

/-- One byte of a field of 4. -/
theorem bytesAt_byte {n off k : Nat} (hk : k < 4) : bytesAt n (off + k) 1 = bytesAt n off 4 / 2 ^ (8 * k) % 256 := by
  have hpow : 2 ^ (8 * (off + k)) = 2 ^ (8 * off) * 2 ^ (8 * k) := by rw [Nat.mul_add, pow_add]
  rw [bytesAt_eq, bytesAt_eq, hpow, ← Nat.div_div_eq_div_mul]
  generalize n / 2 ^ (8 * off) = m
  interval_cases k <;> omega

/-- A counter stands at its number (R170). -/
theorem bytesAt_counterLine (s : State) (i : Fin 8) : bytesAt s.counterLine (4 * i.1) 4 = (s.counters[i]).toNat := by
  let field (i : Fin 8) : Nat × Nat × Nat := (4 * i.1, 4, (s.counters[i]).toNat)
  have hspaced : Spaced 32 (((List.finRange 8).map field).map span) := by
    have hspans : ((List.finRange 8).map field).map span
        = [(0, 4), (4, 4), (8, 4), (12, 4), (16, 4), (20, 4), (24, 4), (28, 4)] := rfl
    rw [hspans]
    unfold Spaced
    decide
  have hline : s.counterLine = fieldSum ((List.finRange 8).map field) := foldr_placeAt field (List.finRange 8)
  rw [hline, (fieldSum_laidOut hspaced).1 _ (List.mem_map_of_mem (List.mem_finRange i))]
  exact Nat.mod_eq_of_lt (s.counters[i]).isLt

end Sys2Proof.Machine
end


section
/-! The writes of a status rewrite and the places of the records in its body (R173, R176). Settles O36. -/

namespace Sys2Proof.Machine

/-! ### The places of a list (R176) -/

theorem placeBytes_eq {α : Type} {f : α → Nat} {fields : α → List (Nat × Nat × Nat)}
    (h : ∀ x, f x = fieldSum (fields x)) (l : List α) (i : Nat) : placeBytes f l i = fieldSum (l[i]?.elim [] fields) := by
  rw [placeBytes]
  cases l[i]? with
  | none => exact fieldSum_nil.symm
  | some x => exact h x

theorem spaced_elim {α : Type} {size : Nat} {fields : α → List (Nat × Nat × Nat)}
    (h : ∀ x, Spaced size ((fields x).map span)) (o : Option α) : Spaced size ((o.elim [] fields).map span) := by
  cases o with
  | none => exact ⟨List.Pairwise.nil, fun x hx => absurd hx List.not_mem_nil⟩
  | some x => exact h x

theorem outcomeByte_some (o : ExposureOutcome) :
    outcomeByte (some o) = (if o.cut then 2 else 1) + 128 * bit o.degraded := by
  cases h : o.degraded <;> simp [outcomeByte, bit, h]

/-! ### The writes of a rewrite (R173) -/

theorem statusWrite_body (s : State) {m : Nat} (hm : m < 86) :
    s.statusWrite (m + 1) = ownWrite (s.controlBase + (0x0120 + 32 * m)) .line (BitVec.ofNat 256 (s.bodyLine m)) none := by
  rw [State.statusWrite, if_neg (Nat.succ_ne_zero m), if_pos (by omega), Nat.add_sub_cancel, Nat.add_assoc]

theorem statusWrite_trailing (s : State) :
    s.statusWrite 87 = ownWrite (s.controlBase + 0x0FE0) .word (s.rewriteCount.setWidth 256) none := by
  rw [State.statusWrite, if_neg (by decide), if_neg (by decide)]

/-! ### The body lines of each structure (R176) -/

theorem bodyLine_stack (s : State) (k : StackSlot) : s.bodyLine (2 + k.number) = stackBytes k (s.stack k) := by
  cases k <;> rfl

theorem bodyLine_queue (s : State) {i j : Nat} (hi : i < 4) (hj : j < 2) :
    s.bodyLine (4 + 2 * i + j) = bytesAt (placeBytes exposureBytes s.queue i) (32 * j) 32 := by
  rw [State.bodyLine, if_neg (by omega), if_neg (by omega), if_neg (by omega), if_neg (by omega), if_pos (by omega),
    show (4 + 2 * i + j - 4) / 2 = i by omega, show (4 + 2 * i + j - 4) % 2 = j by omega]

theorem bodyLine_retired (s : State) {j : Nat} (hj : j < 6) : s.bodyLine (12 + j) = bytesAt s.retiredArea (32 * j) 32 := by
  rw [State.bodyLine, if_neg (by omega), if_neg (by omega), if_neg (by omega), if_neg (by omega), if_neg (by omega),
    if_pos (by omega), Nat.add_sub_cancel_left]

theorem bodyLine_watch (s : State) (i : Fin 4) : s.bodyLine (18 + i.1) = watchBytes s.watch[i] := by
  rw [State.bodyLine, if_neg (by omega), if_neg (by omega), if_neg (by omega), if_neg (by omega), if_neg (by omega),
    if_neg (by omega), if_pos (by omega)]
  simp only [Nat.add_sub_cancel_left, Fin.ofNat_val_eq_self]

theorem bodyLine_progress (s : State) (k : Nat) :
    s.bodyLine (22 + k) = progressBytes (s.progressAt (2 * k)) + progressBytes (s.progressAt (2 * k + 1)) * 2 ^ 128 := by
  rw [State.bodyLine, if_neg (by omega), if_neg (by omega), if_neg (by omega), if_neg (by omega), if_neg (by omega),
    if_neg (by omega), if_neg (by omega), Nat.add_sub_cancel_left]

/-- One of the two progress records of a line. -/
theorem bytesAt_bodyLine_progress (s : State) (i : SegIdx) :
    bytesAt (s.bodyLine (22 + i.1 / 2)) (16 * (i.1 % 2)) 16 = progressBytes s.progress[i] % 2 ^ (8 * 16) := by
  have hself : s.progressAt i.1 = s.progress[i] := by simp only [State.progressAt, Fin.ofNat_val_eq_self]
  have hlow : progressBytes (s.progressAt (2 * (i.1 / 2))) < 2 ^ 128 := by
    rw [progressBytes_eq]
    exact fieldSum_lt (progressFields_spaced _)
  rw [bodyLine_progress, bytesAt_eq, ← hself]
  rcases Nat.mod_two_eq_zero_or_one i.1 with hpar | hpar
  · rw [hpar, show 2 * (i.1 / 2) = i.1 by omega]
    simp only [Nat.mul_zero, pow_zero, Nat.div_one]
    exact Nat.add_mul_mod_self_right ..
  · rw [hpar, show 2 * (i.1 / 2) + 1 = i.1 by omega, show 8 * (16 * 1) = 128 from rfl,
      Nat.add_mul_div_right _ _ (Nat.two_pow_pos 128), Nat.div_eq_of_lt hlow, Nat.zero_add]

/-- The fields of the retired list: a place each. -/
def State.retiredPlaces (s : State) : List (Nat × Nat × Nat) :=
  (List.range 4).map fun i => (48 * i, 48, placeBytes retiredBytes s.retired i)

theorem retiredPlaces_spaced (s : State) : Spaced 192 (s.retiredPlaces.map span) := by
  have hspans : s.retiredPlaces.map span = [(0, 48), (48, 48), (96, 48), (144, 48)] := rfl
  rw [hspans]
  unfold Spaced
  decide

theorem retiredPlace_lt (s : State) (i : Nat) : placeBytes retiredBytes s.retired i < 2 ^ (8 * 48) := by
  rw [placeBytes_eq retiredBytes_eq]
  exact fieldSum_lt (spaced_elim retiredFields_spaced _)

theorem retiredArea_eq (s : State) : s.retiredArea = fieldSum s.retiredPlaces := by
  have hplace : (fun i n => n + placeBytes retiredBytes s.retired i <<< (8 * 48 * i))
      = fun i n => n + placeAt (48 * i) 48 (placeBytes retiredBytes s.retired i) := by
    funext i n
    rw [placeAt, Nat.mod_eq_of_lt (retiredPlace_lt s i), Nat.mul_assoc]
  rw [State.retiredArea, hplace]
  exact foldr_placeAt (fun i => (48 * i, 48, placeBytes retiredBytes s.retired i)) (List.range 4)

theorem bytesAt_retiredArea (s : State) {i : Nat} (hi : i < 4) :
    bytesAt s.retiredArea (48 * i) 48 = placeBytes retiredBytes s.retired i % 2 ^ (8 * 48) := by
  have hplace : (48 * i, 48, placeBytes retiredBytes s.retired i) ∈ s.retiredPlaces :=
    List.mem_map_of_mem (List.mem_range.2 hi)
  rw [retiredArea_eq, (fieldSum_laidOut (retiredPlaces_spaced s)).1 _ hplace]

/-! ### The structures, read from their lines -/

/-- The bytes of body lines `m` to `m + n - 1`. -/
def State.bodyLines (s : State) (m n : Nat) : Nat :=
  (List.range n).foldr (fun j rest => s.bodyLine (m + j) % 2 ^ 256 + 2 ^ 256 * rest) 0

theorem stack_laidOut (s : State) (k : StackSlot) : LaidOut (s.bodyLine (2 + k.number)) 32 (stackFields k (s.stack k)) := by
  rw [bodyLine_stack, stackBytes_eq]
  exact fieldSum_laidOut (stackFields_spaced k _)

theorem queue_laidOut (s : State) {i : Nat} (hi : i < 4) :
    LaidOut (s.bodyLines (4 + 2 * i) 2) 64 (s.queue[i]?.elim [] exposureFields) := by
  refine laidOut_of_fields (spaced_elim exposureFields_spaced _) (placeBytes_eq exposureBytes_eq s.queue i) ?_
  rw [State.bodyLines, foldr_lines 2 fun j hj => bodyLine_queue s hi hj, Nat.mul_zero, Nat.add_zero]

theorem retired_laidOut (s : State) {i : Nat} (hi : i < 4) :
    LaidOut (bytesAt (s.bodyLines 12 6) (48 * i) 48) 48 (s.retired[i]?.elim [] retiredFields) := by
  refine laidOut_of_fields (spaced_elim retiredFields_spaced _) (placeBytes_eq retiredBytes_eq s.retired i) ?_
  rw [State.bodyLines, foldr_lines 6 fun j hj => bodyLine_retired s hj, Nat.mul_zero, Nat.add_zero,
    bytesAt_mod (by omega), bytesAt_retiredArea s hi]

theorem watch_laidOut (s : State) (i : Fin 4) : LaidOut (s.bodyLine (18 + i.1)) 32 (watchFields s.watch[i]) := by
  rw [bodyLine_watch, watchBytes_eq]
  exact fieldSum_laidOut (watchFields_spaced _)

theorem progress_laidOut (s : State) (i : SegIdx) :
    LaidOut (bytesAt (s.bodyLine (22 + i.1 / 2)) (16 * (i.1 % 2)) 16) 16 (progressFields s.progress[i]) :=
  laidOut_of_fields (progressFields_spaced _) (progressBytes_eq _) (bytesAt_bodyLine_progress s i)

/-! ### Flags and counters by their numbers (R166, R170) -/

theorem flag_numbered : ∀ x ∈ ([(1, .memoryFault), (2, .stackFault), (3, .reportFault), (4, .malformedRaw),
    (5, .blockedWrite), (6, .commandRefusedBusy), (7, .exposureCut), (8, .depthOverflow), (9, .biasRowLost),
    (10, .orphanPixels), (11, .watchHit), (12, .exposureDone), (13, .stackRendered), (14, .stackReady),
    (15, .commandDone)] : List (Nat × Flag)), x.1 - 1 = x.2.bit := by
  decide

theorem counter_numbered : ∀ x ∈ ([(0, .orphanPixels), (1, .malformedRaw), (2, .blockedWrites), (3, .memoryFaults),
    (4, .biasRowsLost), (5, .busyRefusals), (6, .shortFrames), (7, .depthOverflows)] : List (Nat × Counter)),
    x.1 = x.2.index.1 := by
  decide

theorem flag_mask_toNat (f : Flag) : f.mask.toNat = 2 ^ f.bit := by
  cases f <;> rfl

theorem bytesAt_headLine_identification (s : State) : bytesAt s.headLine 0 4 = 0x4A4D0416 :=
  bytesAt_headLine (by simp [State.headFields]) (by omega)

theorem bytesAt_headLine_engine (s : State) : bytesAt s.headLine 4 1 = s.engine.number :=
  bytesAt_headLine (by simp [State.headFields]) (by cases s.engine <;> simp [Engine.number])

theorem bytesAt_headLine_tag (s : State) : bytesAt s.headLine 5 1 = s.last.tag.toNat :=
  bytesAt_headLine (by simp [State.headFields]) s.last.tag.isLt

theorem bytesAt_headLine_code (s : State) : bytesAt s.headLine 6 1 = s.last.code.toNat :=
  bytesAt_headLine (by simp [State.headFields]) s.last.code.isLt

theorem bytesAt_headLine_result (s : State) : bytesAt s.headLine 7 1 = s.last.result.number :=
  bytesAt_headLine (by simp [State.headFields]) (by cases s.last.result <;> decide)

theorem bytesAt_headLine_detail (s : State) : bytesAt s.headLine 8 2 = s.last.detail % 65536 := by
  rw [headLine_eq]
  exact (fieldSum_laidOut (headFields_spaced s)).1 (8, 2, _) (by simp [State.headFields])

theorem bytesAt_headLine_flags (s : State) : bytesAt s.headLine 12 4 = s.flags.toNat :=
  bytesAt_headLine (by simp [State.headFields]) (by omega)

theorem bytesAt_headLine_enables (s : State) : bytesAt s.headLine 16 4 = s.enables.toNat :=
  bytesAt_headLine (by simp [State.headFields]) (by omega)

theorem bytesAt_headLine_pins (s : State) : bytesAt s.headLine 20 4 = s.pinsWord :=
  bytesAt_headLine (by simp [State.headFields]) (pinsWord_bytes s).1

theorem bytesAt_headLine_level (s : State) : bytesAt s.headLine 21 1 = s.level.toNat := by
  rw [show 21 = 20 + 1 from rfl, bytesAt_byte (by decide), bytesAt_headLine_pins]
  obtain ⟨-, -, hlevel, hbase⟩ := pinsWord_bytes s
  exact hlevel

theorem bytesAt_headLine_base (s : State) : bytesAt s.headLine 22 1 = s.base.toNat := by
  rw [show 22 = 20 + 2 from rfl, bytesAt_byte (by decide), bytesAt_headLine_pins]
  obtain ⟨-, -, hlevel, hbase⟩ := pinsWord_bytes s
  exact hbase

theorem flagSet_eq_testBit (s : State) (f : Flag) : s.flagSet f = (bytesAt s.headLine 12 4).testBit f.bit := by
  rw [bytesAt_headLine_flags]
  rfl

theorem engine_number_eq (e : Engine) : e.number = if e = .idle then 0 else 1 := by
  cases e <;> rfl

/-- Settles O36: each structure is the sum of its fields at their offsets, and the body cuts the structures into lines. -/
theorem statusBlockIsWrittenAsLaidOut : Obligations.StatusBlockIsWrittenAsLaidOut := by
  intro s own one signed slot result stackState numbered counted cut outcome tallies queued retired hit watched progress
    lines head
  have houtcome : outcome = outcomeByte := by
    funext o
    cases o with
    | none => rfl
    | some o => exact (outcomeByte_some o).symm
  clear_value outcome
  subst houtcome
  refine ⟨rfl, fun m hm => statusWrite_body s hm, statusWrite_trailing s, bytesAt_headLine_identification s, ?_,
    bytesAt_headLine_tag s, bytesAt_headLine_code s, bytesAt_headLine_result s, bytesAt_headLine_detail s,
    bytesAt_headLine_flags s, bytesAt_headLine_enables s, fun n f hf => ?_, ?_, bytesAt_headLine_level s,
    bytesAt_headLine_base s, fun n c hc => ?_, stack_laidOut s, fun i hi => queue_laidOut s hi,
    fun i hi => retired_laidOut s hi, watch_laidOut s, progress_laidOut s⟩
  · exact (bytesAt_headLine_engine s).trans (engine_number_eq s.engine)
  · rw [show n - 1 = f.bit from flag_numbered (n, f) hf]
    exact ⟨flagSet_eq_testBit s f, flag_mask_toNat f⟩
  · exact (congrArg (Nat.testBit · 0) (bytesAt_headLine_pins s)).trans (pinsWord_bytes s).2.1
  · rw [show n = c.index.1 from counter_numbered (n, c) hc]
    exact bytesAt_counterLine s c.index

end Sys2Proof.Machine
end
